-- ==== Sys2Proof/Word.lean ====
section
/-! DEFINITION. The words of the unit's buses (00_scope.md R19, R20; 10_state.md R35, R36). -/

namespace Sys2Proof

/-- A value on an integer bus (X0..X3, Y), or one binary32 bit pattern (a float lane, FT): 32 bits (R19, R220). -/
abbrev Word := BitVec 32

/-- A command word on the CMD bus: 16 bits (R80). -/
abbrev CmdWord := BitVec 16

/-- A value on a float vector bus: four lanes, numbered 0 to 3, each a binary32 bit pattern (R39, R220). -/
structure FVec where
  lane0 : Word
  lane1 : Word
  lane2 : Word
  lane3 : Word
  deriving DecidableEq, Repr, Inhabited

/-- Every lane `0x00000000` (+0.0), what FY carries where a rule does not name it (R37). -/
def FVec.zero : FVec := ⟨0, 0, 0, 0⟩

end Sys2Proof
end

