-- ==== Sys2Proof/Syntax.lean ====
section
/-! DEFINITION. The commands: one constructor per row of spec/opcode_table.json (30_encoding.md R82), with the
qualifiers each row uses. -/

namespace Sys2Proof

/-- A channel: the CH qualifiers `.a`, `.r`, `.g`, `.b` (R83). -/
inductive Chan where
  | a
  | r
  | g
  | b
  deriving DecidableEq, Repr

/-- A 32-bit format: the FMT qualifiers `.pm`, `.argb`, `.abgr` (R84). -/
inductive Fmt where
  | pm
  | argb
  | abgr
  deriving DecidableEq, Repr

/-- A narrow width: the W qualifiers `.4`, `.5`, `.6` (R85). -/
inductive Width where
  | w4
  | w5
  | w6
  deriving DecidableEq, Repr

/-- A decoded command (R82). Data values come on the operand buses (R91); a command holds qualifiers only. -/
inductive Instr where
  | ext32 (f : Fmt) (c : Chan)
  | pack32 (f : Fmt)
  | swaprb
  | ext565 (c : Chan)
  | pack565
  | ext4444 (c : Chan)
  | pack4444
  | widen (w : Width)
  | narrow (w : Width)
  | blend8
  | scale255
  | interp256
  | interp255
  | srcover16 (f : Fmt)
  | lum
  | ffrom32 (f : Fmt)
  | fto32 (f : Fmt)
  | flerp
  | fsrcover
  deriving DecidableEq, Repr

end Sys2Proof
end

