-- ==== Sys2Proof/WellFormed.lean ====
section
/-! DEFINITION. Which commands the unit has: of the terms of Instr only EXT565 with channel A is none, because
RGB565 has no alpha (30_encoding.md R88). -/

namespace Sys2Proof

/-- Is the term a command of the unit? -/
def Instr.wf : Instr → Bool
  | .ext32 _ _ => true
  | .pack32 _ => true
  | .swaprb => true
  | .ext565 c => c != .a
  | .pack565 => true
  | .ext4444 _ => true
  | .pack4444 => true
  | .widen _ => true
  | .narrow _ => true
  | .blend8 => true
  | .scale255 => true
  | .interp256 => true
  | .interp255 => true
  | .srcover16 _ => true
  | .lum => true
  | .ffrom32 _ => true
  | .fto32 _ => true
  | .flerp => true
  | .fsrcover => true

end Sys2Proof
end

