-- ==== Sys2Proof/Decode.lean ====
section
/-! DEFINITION. The decoder (30_encoding.md R80 to R90), total on all 2^16 words, and the encoder beside it. -/

namespace Sys2Proof

/-- Why a word is ILLEGAL. The unit's answer is the same for each (R261); the names are for a reader. -/
inductive IllegalWord where
  /-- OP is 0 or unassigned (R89). -/
  | unassignedOp
  /-- An RSV bit is set (R86). -/
  | reservedBits
  /-- A field the operation does not use is not 0 (R87). -/
  | unusedField
  /-- FMT = 3 (R88). -/
  | reservedFmt
  /-- W = 3 (R88). -/
  | reservedWidth
  /-- CH = A in EXT565 (R88). -/
  | alphaOf565
  deriving DecidableEq, Repr

/-- OP, bits 15:10 (R81). -/
def opField (cmd : CmdWord) : BitVec 6 := cmd.extractLsb' 10 6

/-- CH, bits 9:8 (R81). -/
def chField (cmd : CmdWord) : BitVec 2 := cmd.extractLsb' 8 2

/-- FMT, bits 7:6 (R81). -/
def fmtField (cmd : CmdWord) : BitVec 2 := cmd.extractLsb' 6 2

/-- W, bits 5:4 (R81). -/
def wField (cmd : CmdWord) : BitVec 2 := cmd.extractLsb' 4 2

/-- RSV, bits 3:0 (R81). -/
def rsvField (cmd : CmdWord) : BitVec 4 := cmd.extractLsb' 0 4

/-- The CH field's channel (R83). -/
def chanOfCode (v : BitVec 2) : Chan :=
  if v = 0 then .a else if v = 1 then .r else if v = 2 then .g else .b

/-- The FMT field's format; 3 is reserved (R84). -/
def fmtOfCode (v : BitVec 2) : Option Fmt :=
  if v = 0 then some .pm else if v = 1 then some .argb else if v = 2 then some .abgr else none

/-- The W field's width; 3 is reserved (R85). -/
def widthOfCode (v : BitVec 2) : Option Width :=
  if v = 0 then some .w4 else if v = 1 then some .w5 else if v = 2 then some .w6 else none

/-- One row of the opcode map (R82): the OP value, the word with all used fields 0, the mask of the bits the
row fixes, the fields it uses, whether CH = A is reserved in it (R88), and the command it stands for. -/
structure Row where
  op       : BitVec 6
  pattern  : CmdWord
  mask     : CmdWord
  usesFmt  : Bool
  usesW    : Bool
  noAlpha  : Bool
  build    : Fmt → Chan → Width → Instr

/-- The opcode map, format family (R82). -/
def formatRows : List Row := [
  ⟨0x01, 0x0400, 0xFC3F, true,  false, false, fun f c _ => .ext32 f c⟩,
  ⟨0x02, 0x0800, 0xFF3F, true,  false, false, fun f _ _ => .pack32 f⟩,
  ⟨0x03, 0x0C00, 0xFFFF, false, false, false, fun _ _ _ => .swaprb⟩,
  ⟨0x04, 0x1000, 0xFCFF, false, false, true,  fun _ c _ => .ext565 c⟩,
  ⟨0x05, 0x1400, 0xFFFF, false, false, false, fun _ _ _ => .pack565⟩,
  ⟨0x06, 0x1800, 0xFCFF, false, false, false, fun _ c _ => .ext4444 c⟩,
  ⟨0x07, 0x1C00, 0xFFFF, false, false, false, fun _ _ _ => .pack4444⟩]

/-- The opcode map, precision family (R82). -/
def precisionRows : List Row := [
  ⟨0x08, 0x2000, 0xFFCF, false, true,  false, fun _ _ w => .widen w⟩,
  ⟨0x09, 0x2400, 0xFFCF, false, true,  false, fun _ _ w => .narrow w⟩]

/-- The opcode map, blending family (R82). -/
def blendRows : List Row := [
  ⟨0x10, 0x4000, 0xFFFF, false, false, false, fun _ _ _ => .blend8⟩,
  ⟨0x11, 0x4400, 0xFFFF, false, false, false, fun _ _ _ => .scale255⟩,
  ⟨0x12, 0x4800, 0xFFFF, false, false, false, fun _ _ _ => .interp256⟩,
  ⟨0x13, 0x4C00, 0xFFFF, false, false, false, fun _ _ _ => .interp255⟩,
  ⟨0x14, 0x5000, 0xFF3F, true,  false, false, fun f _ _ => .srcover16 f⟩,
  ⟨0x15, 0x5400, 0xFFFF, false, false, false, fun _ _ _ => .lum⟩]

/-- The opcode map, float family (R82). -/
def floatRows : List Row := [
  ⟨0x18, 0x6000, 0xFF3F, true,  false, false, fun f _ _ => .ffrom32 f⟩,
  ⟨0x19, 0x6400, 0xFF3F, true,  false, false, fun f _ _ => .fto32 f⟩,
  ⟨0x1A, 0x6800, 0xFFFF, false, false, false, fun _ _ _ => .flerp⟩,
  ⟨0x1B, 0x6C00, 0xFFFF, false, false, false, fun _ _ _ => .fsrcover⟩]

/-- The opcode map (R82); an OP of no row is unassigned (R89). -/
def rows : List Row := formatRows ++ precisionRows ++ blendRows ++ floatRows

/-- The field checks of R90 once the row of the word's OP is found. -/
def decodeIn (row : Row) (cmd : CmdWord) : Except IllegalWord Instr :=
  if cmd &&& row.mask ≠ row.pattern then
    .error (if rsvField cmd ≠ 0 then .reservedBits else .unusedField)
  else if row.usesFmt && fmtOfCode (fmtField cmd) == none then .error .reservedFmt
  else if row.usesW && widthOfCode (wField cmd) == none then .error .reservedWidth
  else if row.noAlpha && chField cmd == 0 then .error .alphaOf565
  else .ok (row.build ((fmtOfCode (fmtField cmd)).getD .pm) (chanOfCode (chField cmd))
    ((widthOfCode (wField cmd)).getD .w4))

/-- The decoder (R90): a command, or ILLEGAL with the reason. -/
def decode (cmd : CmdWord) : Except IllegalWord Instr :=
  match rows.find? (fun row => row.op == opField cmd) with
  | none => .error .unassignedOp
  | some row => decodeIn row cmd

/-- The command a word of spec/opcode_table.json decodes to. Every command is one 16-bit word on the CMD bus
(R80, R94), so there is no layout in memory: bits above `nbits` are 0, and the word is the CMD bus (log entry 14). -/
def decodeTableWord (nbits w : Nat) : Option Instr :=
  match decode (BitVec.ofNat 16 (w % 2 ^ nbits)) with
  | .ok i => some i
  | .error _ => none

/-- CH code of a channel (R83). -/
def Chan.code : Chan → BitVec 16
  | .a => 0
  | .r => 1
  | .g => 2
  | .b => 3

/-- FMT code of a format (R84). -/
def Fmt.code : Fmt → BitVec 16
  | .pm => 0
  | .argb => 1
  | .abgr => 2

/-- W code of a width (R85). -/
def Width.code : Width → BitVec 16
  | .w4 => 0
  | .w5 => 1
  | .w6 => 2

/-- A command word from its fields (R81), RSV = 0 (R86). -/
def word (op ch fmt w : BitVec 16) : CmdWord :=
  op <<< 10 ||| ch <<< 8 ||| fmt <<< 6 ||| w <<< 4

/-- The encoder: the command word of a command (R81 to R87). -/
def encode : Instr → CmdWord
  | .ext32 f c => word 0x01 c.code f.code 0
  | .pack32 f => word 0x02 0 f.code 0
  | .swaprb => word 0x03 0 0 0
  | .ext565 c => word 0x04 c.code 0 0
  | .pack565 => word 0x05 0 0 0
  | .ext4444 c => word 0x06 c.code 0 0
  | .pack4444 => word 0x07 0 0 0
  | .widen w => word 0x08 0 0 w.code
  | .narrow w => word 0x09 0 0 w.code
  | .blend8 => word 0x10 0 0 0
  | .scale255 => word 0x11 0 0 0
  | .interp256 => word 0x12 0 0 0
  | .interp255 => word 0x13 0 0 0
  | .srcover16 f => word 0x14 0 f.code 0
  | .lum => word 0x15 0 0 0
  | .ffrom32 f => word 0x18 0 f.code 0
  | .fto32 f => word 0x19 0 f.code 0
  | .flerp => word 0x1A 0 0 0
  | .fsrcover => word 0x1B 0 0 0

end Sys2Proof
end

