-- ==== Sys2Proof/Config.lean ====
section
/-! DEFINITION. What a unit is built with (the configuration straps of 00_scope.md R10 to R18), and the free
values: what the spec leaves "any value". -/

namespace Sys2Proof

/-- PM_ORDER: which 32-bit layout is canonical (R10). -/
inductive PmOrder where
  | argb
  | abgr
  deriving DecidableEq, Repr

/-- BLEND_PATH: the datapath behind INTERP256 and INTERP255 (R11). -/
inductive BlendPath where
  | ref
  | splay32
  | splay64
  deriving DecidableEq, Repr

/-- FLOAT_LANES: which channel each float lane holds (R12). -/
inductive FloatLanes where
  | argb
  | rgba
  deriving DecidableEq, Repr

/-- FLOAT_TIES: how FTO32 rounds an exact half (R13). -/
inductive FloatTies where
  | tiesUp
  | tiesEven
  deriving DecidableEq, Repr

/-- CHECK_MODE: whether a precondition violation shows in STATUS (R14). -/
inductive CheckMode where
  | debug
  | release
  deriving DecidableEq, Repr

/-- LAYOUT_4444: the 16-bit 4444 layout (R15). -/
inductive Layout4444 where
  | argb
  | rgba
  deriving DecidableEq, Repr

/-- BLEND_BIAS: the rounding bias of the byte blend, 128 or 0 (R16). -/
inductive BlendBias where
  | bias128
  | bias0
  deriving DecidableEq, Repr

/-- FLOAT_CLAMP_IMPL: explicit clamping, or a saturating conversion (R18). -/
inductive FloatClampImpl where
  | clamp
  | saturate
  deriving DecidableEq, Repr

/-- The configuration straps of one unit (R10 to R18): constants of the whole run. No move of the model
changes them (R291), and no rule reads `latency` (R296). -/
structure Straps where
  pmOrder        : PmOrder
  blendPath      : BlendPath
  floatLanes     : FloatLanes
  floatTies      : FloatTies
  checkMode      : CheckMode
  layout4444     : Layout4444
  blendBias      : BlendBias
  latency        : Nat
  floatClampImpl : FloatClampImpl
  deriving DecidableEq, Repr

/-- The straps `State.reset` has: the configuration 95_test_vectors.md calls "defaults", with the values R15
and R16 give. DESIGN CHOICE for the OPEN ones (log entry 1, unsafe): a claim about the unit is stated over
every value of the straps, never over this one. -/
def Config.straps : Straps where
  pmOrder        := .argb
  blendPath      := .ref
  floatLanes     := .argb
  floatTies      := .tiesUp
  checkMode      := .debug
  layout4444     := .argb
  blendBias      := .bias128
  latency        := 1
  floatClampImpl := .clamp

/-- The Y of a precondition-violating response: any value (R37, R262; log entry 6, safe). -/
opaque Config.freeY : Nat → Word

/-- The FY of a precondition-violating response: any value (R37, R262; log entry 6, safe). -/
opaque Config.freeFY : Nat → FVec

/-- What a binary32 primitive gives where an operand is a NaN or the operation is invalid: the spec gives no
value, and no request reaches it (R221; log entry 12, safe). -/
opaque Config.freeNaN : Word → Word → Word

end Sys2Proof
end

