-- ==== Sys2Proof/Machine/Operands.lean ====
section
/-! DEFINITION. Every operand form: bit fields of a bus value, the layouts of the packed formats
(41_format.md R110 to R115), the lanes of the float vectors (10_state.md R39) and the narrow widths. -/

namespace Sys2Proof.Machine

/-- The field of `width` bits of `v` whose lowest bit is bit `lo`, an unsigned number (R20). -/
def field (v lo width : Nat) : Nat := (v >>> lo) % 2 ^ width

/-- The layout a format qualifier names under the straps (R112). -/
def orderOf (c : Straps) : Fmt → PmOrder
  | .pm => c.pmOrder
  | .argb => .argb
  | .abgr => .abgr

/-- The shift of a channel in variant A and in variant B (R110, R111). -/
def pos32 : PmOrder → Chan → Nat
  | .argb, .a => 24
  | .argb, .r => 16
  | .argb, .g => 8
  | .argb, .b => 0
  | .abgr, .a => 24
  | .abgr, .b => 16
  | .abgr, .g => 8
  | .abgr, .r => 0

/-- One channel of a packed 32-bit color (R115). -/
def get32 (c : Straps) (p : Word) (f : Fmt) (ch : Chan) : Nat :=
  field p.toNat (pos32 (orderOf c f) ch) 8

/-- A packed 32-bit color from its four channels, each 0..255 (R115). -/
def put32 (c : Straps) (f : Fmt) (a r g b : Nat) : Nat :=
  a <<< pos32 (orderOf c f) .a ||| r <<< pos32 (orderOf c f) .r
    ||| g <<< pos32 (orderOf c f) .g ||| b <<< pos32 (orderOf c f) .b

/-- Shift and width of a channel of RGB565 (R113, R115). The format has no alpha: EXT565.a is no command (R88),
and the field given here for it is empty. -/
def pos565 : Chan → Nat × Nat
  | .a => (0, 0)
  | .r => (11, 5)
  | .g => (5, 6)
  | .b => (0, 5)

/-- Shift of a channel of the 16-bit 4444 format under LAYOUT_4444 (R114). -/
def pos4444 : Layout4444 → Chan → Nat
  | .argb, .a => 12
  | .argb, .r => 8
  | .argb, .g => 4
  | .argb, .b => 0
  | .rgba, .a => 0
  | .rgba, .r => 12
  | .rgba, .g => 8
  | .rgba, .b => 4

/-- A lane of a float vector. -/
def laneAt (v : FVec) : Fin 4 → Word
  | 0 => v.lane0
  | 1 => v.lane1
  | 2 => v.lane2
  | 3 => v.lane3

/-- The float vector with the given lanes. -/
def fvecOf (g : Fin 4 → Word) : FVec := ⟨g 0, g 1, g 2, g 3⟩

/-- `L(c)`: the lane of a channel under FLOAT_LANES (R39). -/
def laneOf : FloatLanes → Chan → Fin 4
  | .argb, .a => 0
  | .argb, .r => 1
  | .argb, .g => 2
  | .argb, .b => 3
  | .rgba, .r => 0
  | .rgba, .g => 1
  | .rgba, .b => 2
  | .rgba, .a => 3

/-- The channel of a lane under FLOAT_LANES (R39). -/
def chanOf : FloatLanes → Fin 4 → Chan
  | .argb, 0 => .a
  | .argb, 1 => .r
  | .argb, 2 => .g
  | .argb, 3 => .b
  | .rgba, 0 => .r
  | .rgba, 1 => .g
  | .rgba, 2 => .b
  | .rgba, 3 => .a

/-- The number of bits of a narrow width (R85). -/
def widthBits : Width → Nat
  | .w4 => 4
  | .w5 => 5
  | .w6 => 6

/-- The value of BLEND_BIAS (R16). -/
def biasValue : BlendBias → Nat
  | .bias128 => 128
  | .bias0 => 0

/-- An integer written to an integer bus (R21: it already lies in 0..2^32-1). -/
def toBus (v : Nat) : Word := BitVec.ofNat 32 v

end Sys2Proof.Machine
end

