-- ==== Sys2Proof/Machine/State.lean ====
section
/-! DEFINITION. The machine's state. The unit itself holds only the requests in flight and the response being
presented (10_state.md R30, R42; 70_reset_and_hazards.md R290); it has no register, program counter, flag or
memory (R31 to R34, R40, R41). Beside them stand the straps, what the agents do next, and the run's record. -/

namespace Sys2Proof.Machine

/-- A request: everything the host presents at once (R35). -/
structure Request where
  cmd : CmdWord
  x0  : Word
  x1  : Word
  x2  : Word
  x3  : Word
  f0  : FVec
  f1  : FVec
  ft  : Word
  deriving DecidableEq, Repr

/-- The request with every bus 0. -/
def Request.zero : Request := ⟨0, 0, 0, 0, 0, .zero, .zero, 0⟩

/-- STATUS of a response (R36, R260). Code 3 is never produced, so there is no fourth constructor (U5). -/
inductive Status where
  | ok
  | illegal
  | precond
  deriving DecidableEq, Repr

/-- A response: everything the unit gives at once (R36). -/
structure Response where
  status : Status
  y      : Word
  fy     : FVec
  deriving DecidableEq, Repr

/-- What happens next at the interface (R274). -/
inductive Move where
  /-- The host presents a request and the unit accepts it. -/
  | present (r : Request)
  /-- The unit answers the oldest request in flight. -/
  | answer
  /-- The host takes the presented response. -/
  | take
  /-- The host asserts reset and releases it (R290; log entry 21). -/
  | reset
  deriving DecidableEq, Repr

/-- A fault of the run. It is RECORDED in `State.fault` and never cleared (R263); no step stops with it,
because the unit does not stop on a violation (R262). -/
inductive Fault where
  /-- A `require` of the answered operation's rule was false (R262, R263). Recorded by the meaning of every
  operation that has a `require`; safe: a claim about a run's results assumes that no fault is recorded. -/
  | preconditionViolated
  deriving DecidableEq, Repr

/-- Why the model has no meaning for an instruction. -/
inductive Refusal where
  /-- An instruction whose meaning is not written yet, by its mnemonic. Raised by an arm of `exec` only; no arm
  raises it: every instruction has its meaning. Safe. -/
  | notModelled (mnemonic : String)
  deriving DecidableEq, Repr

/-- The state of the unit, of the interface and of the run. -/
structure State where
  /-- The configuration straps (R10 to R18, R34): no move changes them (R291). -/
  straps    : Straps
  /-- The requests accepted and not yet answered, oldest first (R42, R66). -/
  inFlight  : List Request
  /-- The response that is presented and not yet taken, if a response is valid (R36, R290). -/
  presented : Option Response
  /-- What the agents do next, in order (the model's own; log entry 2). -/
  moves     : List Move
  /-- The responses the host has taken, oldest first: the outcome of the run (R297). -/
  taken     : List Response
  /-- The recorded fault of the run (R263). -/
  fault     : Option Fault
  /-- How many accepted requests lost their response to a reset (the model's own; R297, log entry 9). -/
  discarded : Nat
  /-- How many free values have been drawn (the model's own; log entry 6). -/
  draws     : Nat
  deriving DecidableEq, Repr

/-- A unit with straps `c` right after reset (R50, R290, R293): no request in flight, no response valid, no
fault recorded. -/
def State.resetWith (c : Straps) : State where
  straps    := c
  inFlight  := []
  presented := none
  moves     := []
  taken     := []
  fault     := none
  discarded := 0
  draws     := 0

/-- The machine right after reset, with the straps of `Config.straps` (log entry 1). -/
def State.reset : State := State.resetWith Config.straps

end Sys2Proof.Machine
end

