-- ==== Sys2Proof/Machine/Flags.lean ====
section
/-! DEFINITION. The unit has no flags or condition codes (10_state.md R33). What its operations compute beside
a result is the STATUS of the response (60_exceptions.md R260, R262) and the truth of a `require`: the range
checks of 10_state.md R43 to R49. -/

namespace Sys2Proof.Machine

/-- The 2-bit code of a STATUS (R260). -/
def Status.code : Status → BitVec 2
  | .ok => 0
  | .illegal => 1
  | .precond => 2

/-- The STATUS of a precondition-violating response (R262). -/
def violationStatus : CheckMode → Status
  | .debug => .precond
  | .release => .ok

/-- An 8-bit channel value or a 255-scale weight, 0..255 (R43, R48). -/
def isByte (x : Word) : Bool := x.toNat ≤ 255

/-- A 256-scale weight, 0..256 (R48). -/
def isScale256 (x : Word) : Bool := x.toNat ≤ 256

/-- A narrow channel value of `n` bits (R49). -/
def isNarrow (n : Nat) (x : Word) : Bool := x.toNat < 2 ^ n

end Sys2Proof.Machine
end

