-- ==== Sys2Proof/Machine/Ops.lean ====
section
/-! DEFINITION. The operations every meaning and every step are made of: accepting a request, answering the
oldest request in flight, taking a response, and reset. The unit takes no exception and returns from none
(60_exceptions.md R266, R267): its two error outcomes, ILLEGAL and a precondition violation, are answers, and
`State.give` is the one place that gives them. -/

namespace Sys2Proof.Machine

/-- What the rule of an operation gives for a request (R37, R260). -/
inductive Answer where
  /-- The rule names Y. -/
  | integer (y : Word)
  /-- The rule names FY. -/
  | float (fy : FVec)
  /-- Decode rejected the command word (R261). -/
  | illegal
  /-- A `require` of the rule was false (R262). -/
  | violation
  deriving DecidableEq, Repr

/-- `require c` (R22): when `c` is false the request ends as a precondition violation. -/
def require (c : Bool) (a : Answer) : Answer := if c then a else .violation

/-- The response of an answer: a result bus the rule does not name carries zeros (R37), an ILLEGAL response
carries zeros (R261), and the result buses of a violating response carry any value (R262). -/
def Answer.response (a : Answer) (c : Straps) (draws : Nat) : Response :=
  match a with
  | .integer y => ⟨.ok, y, .zero⟩
  | .float fy => ⟨.ok, 0, fy⟩
  | .illegal => ⟨.illegal, 0, .zero⟩
  | .violation => ⟨violationStatus c.checkMode, Config.freeY draws, Config.freeFY draws⟩

/-- The fault record after an answer: a violation is recorded, and a record is never cleared (R263). -/
def Answer.faultAfter (a : Answer) (f : Option Fault) : Option Fault :=
  match a with
  | .violation => some .preconditionViolated
  | _ => f

/-- The free-value counter after an answer (log entry 6). -/
def Answer.drawsAfter (a : Answer) (n : Nat) : Nat :=
  match a with
  | .violation => n + 1
  | _ => n

/-- The response to an accepted request is presented, and `q` is what stays in flight. Nothing else changes but
the record of a violation (R64, R262, R263). -/
def State.give (s : State) (q : List Request) (a : Answer) : State :=
  { s with
    inFlight  := q
    presented := some (a.response s.straps s.draws)
    fault     := a.faultAfter s.fault
    draws     := a.drawsAfter s.draws }

/-- Answer the oldest request in flight by `rule`. With none in flight there is nothing to answer, and while a
response is presented and not taken the answer waits, so that every accepted request gets exactly one response
(R66, R274; log entries 4 and 10). -/
def answer (rule : Straps → Request → Answer) (s : State) : Host.Outcome State Fault Refusal :=
  match s.presented, s.inFlight with
  | none, r :: q => .next (s.give q (rule s.straps r))
  | _, _ => .next s

/-- The unit accepts a request: it is the youngest in flight (R42, R66). -/
def State.accept (s : State) (r : Request) : State :=
  { s with inFlight := s.inFlight ++ [r] }

/-- The host takes the presented response, if there is one (R274). -/
def State.take (s : State) : State :=
  { s with presented := none, taken := s.taken ++ s.presented.toList }

/-- Reset (R290): the requests in flight are discarded, the presented response is withdrawn, and nothing else of
the unit changes; the run's record counts what was lost (log entries 8 and 9). -/
def State.assertReset (s : State) : State :=
  { s with
    inFlight  := []
    presented := none
    discarded := s.discarded + s.inFlight.length + s.presented.toList.length }

end Sys2Proof.Machine
end

