-- ==== Sys2Proof/Machine/Blend.lean ====
section
/-! DEFINITION. The integer blending datapath: BLEND8, SCALE255, INTERP256, INTERP255 on the three datapaths,
SRCOVER16 and LUM (43_blend.md R170 to R190). -/

namespace Sys2Proof.Machine

/-- `asr(v, n)`: floor(v / 2^n) of a signed value (R21). -/
def asr (v : Int) (n : Nat) : Int := v / (2 : Int) ^ n

/-- The byte blend (R171, first form), for s, d in 0..255 and k in 0..256. -/
def blend (bias s d k : Nat) : Nat :=
  ((d : Int) + asr (((s : Int) - d) * k + bias) 8).toNat

/-- `byte_i` of a 32-bit word (R175). -/
def byteAt (x : Word) (i : Nat) : Nat := field x.toNat (8 * i) 8

/-- The REF datapath: four byte blends with one scale (R175). -/
def interpRef (bias : Nat) (s d : Word) (k : Nat) : Word :=
  toBus (blend bias (byteAt s 0) (byteAt d 0) k
    + blend bias (byteAt s 1) (byteAt d 1) k <<< 8
    + blend bias (byteAt s 2) (byteAt d 2) k <<< 16
    + blend bias (byteAt s 3) (byteAt d 3) k <<< 24)

/-- One word of the SPLAY32 datapath: two 16-bit lanes blended at once (R178). -/
def splayLanes32 (bias : Nat) (s d : Word) (k : Nat) : Word :=
  s * BitVec.ofNat 32 k + d * BitVec.ofNat 32 (256 - k) + BitVec.ofNat 32 (bias * 0x00010001)

/-- The SPLAY32 datapath (R178), in words of 32 bits (log entry 19). -/
def interpSplay32 (bias : Nat) (s d : Word) (k : Nat) : Word :=
  let m : Word := 0x00FF00FF
  let lo := splayLanes32 bias (s &&& m) (d &&& m) k
  let hi := splayLanes32 bias ((s >>> 8) &&& m) ((d >>> 8) &&& m) k
  (hi &&& 0xFF00FF00) ||| ((lo &&& 0xFF00FF00) >>> 8)

/-- `splay` of R179: byte 0, 2, 1, 3 of the word into the four 16-bit lanes of a 64-bit word. -/
def splay64 (x : Word) : BitVec 64 :=
  (x.setWidth 64 ||| x.setWidth 64 <<< 24) &&& 0x00FF00FF00FF00FF

/-- The accumulator of the SPLAY64 datapath: four 16-bit lanes blended at once (R179). -/
def splayLanes64 (bias : Nat) (s d : BitVec 64) (k : Nat) : BitVec 64 :=
  s * BitVec.ofNat 64 k + d * BitVec.ofNat 64 (256 - k) + BitVec.ofNat 64 (bias * 0x0001000100010001)

/-- The SPLAY64 datapath (R179), in words of 64 bits (log entry 19). -/
def interpSplay64 (bias : Nat) (s d : Word) (k : Nat) : Word :=
  let m := splayLanes64 bias (splay64 s) (splay64 d) k &&& 0xFF00FF00FF00FF00
  (m >>> 8 ||| m >>> 32).setWidth 32

/-- The four-byte interpolation by the datapath BLEND_PATH selects (R170, R175 to R179). -/
def interp (c : Straps) (s d : Word) (k : Nat) : Word :=
  match c.blendPath with
  | .ref => interpRef (biasValue c.blendBias) s d k
  | .splay32 => interpSplay32 (biasValue c.blendBias) s d k
  | .splay64 => interpSplay64 (biasValue c.blendBias) s d k

/-- A 255-scale weight as a 256-scale weight (R174). -/
def scale256Of (w : Nat) : Nat := w + w >>> 7

/-- The multiply-shift-round helper (R186). -/
def msr (a b sh : Nat) : Nat :=
  let p := a * b + 1 <<< (sh - 1)
  (p + p >>> sh) >>> sh

/-- One channel of SRCOVER16 (R187): source byte `v`, destination channel `d` of `n` bits, `isa` = 255 - alpha. -/
def srcoverChannel (v d isa n : Nat) : Nat := (v + msr d isa n) >>> (8 - n)

/-- BLEND8 (R173). -/
def blend8Rule (c : Straps) (r : Request) : Answer :=
  require (isByte r.x0 && isByte r.x1 && isScale256 r.x2)
    (.integer (toBus (blend (biasValue c.blendBias) r.x0.toNat r.x1.toNat r.x2.toNat)))

/-- SCALE255 (R174). -/
def scale255Rule (_ : Straps) (r : Request) : Answer :=
  require (isByte r.x0) (.integer (toBus (scale256Of r.x0.toNat)))

/-- INTERP256 (R176). -/
def interp256Rule (c : Straps) (r : Request) : Answer :=
  require (isScale256 r.x2) (.integer (interp c r.x0 r.x1 r.x2.toNat))

/-- INTERP255 (R181). -/
def interp255Rule (c : Straps) (r : Request) : Answer :=
  require (isByte r.x2) (.integer (interp c r.x0 r.x1 (scale256Of r.x2.toNat)))

/-- SRCOVER16.fmt (R187): bits 31:16 of X1 are ignored. -/
def srcover16Rule (f : Fmt) (c : Straps) (r : Request) : Answer :=
  let sa := get32 c r.x0 f .a
  let sr := get32 c r.x0 f .r
  let sg := get32 c r.x0 f .g
  let sb := get32 c r.x0 f .b
  let isa := 255 - sa
  let nr := srcoverChannel sr (field r.x1.toNat 11 5) isa 5
  let ng := srcoverChannel sg (field r.x1.toNat 5 6) isa 6
  let nb := srcoverChannel sb (field r.x1.toNat 0 5) isa 5
  require (decide (sr ≤ sa) && decide (sg ≤ sa) && decide (sb ≤ sa))
    (.integer (toBus (nr <<< 11 ||| ng <<< 5 ||| nb)))

/-- LUM (R190). -/
def lumRule (_ : Straps) (r : Request) : Answer :=
  require (isByte r.x0 && isByte r.x1 && isByte r.x2)
    (.integer (toBus ((54 * r.x0.toNat + 183 * r.x1.toNat + 19 * r.x2.toNat) >>> 8)))

/-- BLEND8. -/
def execBlend8 (s : State) : Host.Outcome State Fault Refusal := answer blend8Rule s

/-- SCALE255. -/
def execScale255 (s : State) : Host.Outcome State Fault Refusal := answer scale255Rule s

/-- INTERP256. -/
def execInterp256 (s : State) : Host.Outcome State Fault Refusal := answer interp256Rule s

/-- INTERP255. -/
def execInterp255 (s : State) : Host.Outcome State Fault Refusal := answer interp255Rule s

/-- SRCOVER16.fmt. -/
def execSrcover16 (f : Fmt) (s : State) : Host.Outcome State Fault Refusal := answer (srcover16Rule f) s

/-- LUM. -/
def execLum (s : State) : Host.Outcome State Fault Refusal := answer lumRule s

end Sys2Proof.Machine
end

