-- ==== Sys2Proof/Machine/FloatArith.lean ====
section
/-! DEFINITION. The binary32 primitives (00_scope.md R23; 44_float.md R220 to R223, R227). A finite pattern
stands for an exact multiple of 2^-149; sums and products are computed exactly on integers and rounded once,
to nearest with ties to even. PRESUMED where the spec says "IEEE 754" (log entry 15). -/

namespace Sys2Proof.Machine

/-- The sign bit, bit 31 (R220). -/
def signBit (x : Word) : Bool := x.getLsbD 31

/-- The biased exponent, bits 30:23 (R220). -/
def expField (x : Word) : Nat := field x.toNat 23 8

/-- The fraction, bits 22:0 (R220). -/
def fracField (x : Word) : Nat := field x.toNat 0 23

/-- `isnan` (R23). -/
def isNaN (x : Word) : Bool := expField x == 255 && fracField x != 0

/-- Is the pattern an infinity? -/
def isInf (x : Word) : Bool := expField x == 255 && fracField x == 0

/-- The magnitude in units of 2^-149. For an infinity it is 2^277, above every finite magnitude. -/
def magnitude (x : Word) : Nat :=
  if expField x = 0 then fracField x else (2 ^ 23 + fracField x) <<< (expField x - 1)

/-- The signed value in units of 2^-149; −0 and +0 are both 0. -/
def value (x : Word) : Int := if signBit x then -(magnitude x : Int) else magnitude x

/-- `n / 2^sh` rounded to the nearest integer, ties to even. -/
def roundEven (n sh : Nat) : Nat :=
  let q := n >>> sh
  let rem := n - q <<< sh
  if 2 * rem > 1 <<< sh ∨ (2 * rem = 1 <<< sh ∧ q % 2 = 1) then q + 1 else q

/-- The binary32 pattern nearest to `n · 2^(-149-k)`, ties to even, with sign `neg`: subnormals are honoured,
and a value beyond the largest finite one is an infinity (R221). `e` is how far the result's last place is
above 2^-149; a carry out of the significand runs into the exponent field, as it should. -/
def roundPack (neg : Bool) (n k : Nat) : Word :=
  let sh := max k (Nat.log2 n - 23)
  let e := sh - k
  toBus ((if neg then 2 ^ 31 else 0) + min (e <<< 23 + roundEven n sh) 0x7F800000)

/-- An infinity of the given sign. -/
def infinity (neg : Bool) : Word := toBus ((if neg then 2 ^ 31 else 0) + 0x7F800000)

/-- `fmul32` (R23, R221). -/
def fmul32 (a b : Word) : Word :=
  let neg := signBit a != signBit b
  if isNaN a || isNaN b then Config.freeNaN a b
  else if isInf a || isInf b then
    if magnitude a == 0 || magnitude b == 0 then Config.freeNaN a b else infinity neg
  else roundPack neg (magnitude a * magnitude b) 149

/-- `fadd32` (R23, R221). An exact zero sum is −0 when both operands are negative, else +0. -/
def fadd32 (a b : Word) : Word :=
  let v := value a + value b
  if isNaN a || isNaN b then Config.freeNaN a b
  else if isInf a && isInf b && signBit a != signBit b then Config.freeNaN a b
  else if isInf a then a
  else if isInf b then b
  else if v = 0 then roundPack (signBit a && signBit b) 0 0
  else roundPack (decide (v < 0)) v.natAbs 0

/-- `fsub32` (R23, R221): the sum with the second operand's sign flipped. -/
def fsub32 (a b : Word) : Word := fadd32 a (b ^^^ 0x80000000)

/-- `fle`: the IEEE ordered comparison a ≤ b, false for a NaN (R23). `fge a b` is `fle b a`. -/
def fle (a b : Word) : Bool := !isNaN a && !isNaN b && decide (value a ≤ value b)

/-- `flt`: the IEEE ordered comparison a < b, false for a NaN (R223). `fgt a b` is `flt b a`. -/
def flt (a b : Word) : Bool := !isNaN a && !isNaN b && decide (value a < value b)

/-- K_INV255, the binary32 nearest to 1/255 (R222). -/
def kInv255 : Word := 0x3B808081

/-- K_255 (R222). -/
def k255 : Word := 0x437F0000

/-- K_ONE (R222). -/
def kOne : Word := 0x3F800000

/-- `u8_to_f32`: the exact binary32 of an integer 0..255 (R23, R223). -/
def u8ToF32 (n : Nat) : Word := roundPack false (n <<< 149) 0

/-- `in01` (R223): false for a NaN, true for −0 and +0. -/
def in01 (x : Word) : Bool := fle 0 x && fle x kOne

/-- `clamp01` (R223). -/
def clamp01 (x : Word) : Word := if flt x 0 then 0 else if flt kOne x then kOne else x

/-- The integer nearest to the value of `p`, a tie as FLOAT_TIES says (R227). -/
def roundToInt (t : FloatTies) (p : Word) : Int :=
  match t with
  | .tiesUp => (value p + 2 ^ 148) / 2 ^ 149
  | .tiesEven =>
    let q := value p / 2 ^ 149
    let rem := value p % 2 ^ 149
    if 2 * rem > 2 ^ 149 ∨ (2 * rem = 2 ^ 149 ∧ q % 2 = 1) then q + 1 else q

/-- `round_byte` (R227), for 0 ≤ p ≤ 255. -/
def roundByte (t : FloatTies) (p : Word) : Nat := (roundToInt t p).toNat

/-- An integer saturated to 0..255 (R229). -/
def saturateByte (v : Int) : Nat := min v.toNat 255

end Sys2Proof.Machine
end

