-- ==== Sys2Proof/Machine/FloatPath.lean ====
section
/-! DEFINITION. The float 4-vector path: FFROM32, FTO32, FLERP, FSRCOVER (44_float.md R225 to R231). -/

namespace Sys2Proof.Machine

/-- Every lane of a float vector meets a condition. -/
def allLanes (p : Word → Bool) (v : FVec) : Bool := p v.lane0 && p v.lane1 && p v.lane2 && p v.lane3

/-- The byte of a float lane (R226, R227, R229), by the build FLOAT_CLAMP_IMPL selects (log entry 16). -/
def laneByte (c : Straps) (v : Word) : Nat :=
  match c.floatClampImpl with
  | .clamp => roundByte c.floatTies (fmul32 (clamp01 v) k255)
  | .saturate => saturateByte (roundToInt c.floatTies (fmul32 v k255))

/-- The byte FTO32 gives channel `ch` (R228). -/
def chanByte (c : Straps) (v : FVec) (ch : Chan) : Nat :=
  laneByte c (laneAt v (laneOf c.floatLanes ch))

/-- FFROM32.fmt (R225): the lane of each channel gets the channel's byte times 1/255. -/
def ffrom32Rule (f : Fmt) (c : Straps) (r : Request) : Answer :=
  .float (fvecOf fun j => fmul32 (u8ToF32 (get32 c r.x0 f (chanOf c.floatLanes j))) kInv255)

/-- FTO32.fmt (R228). -/
def fto32Rule (f : Fmt) (c : Straps) (r : Request) : Answer :=
  require (allLanes (fun x => !isNaN x) r.f0)
    (.integer (toBus
      (put32 c f (chanByte c r.f0 .a) (chanByte c r.f0 .r) (chanByte c r.f0 .g) (chanByte c r.f0 .b))))

/-- FLERP (R230): s·t + d·(1 − t), two roundings a product and sum, in this order. -/
def flerpRule (_ : Straps) (r : Request) : Answer :=
  let u := fsub32 kOne r.ft
  require (in01 r.ft && allLanes in01 r.f0 && allLanes in01 r.f1)
    (.float (fvecOf fun j =>
      fadd32 (fmul32 (laneAt r.f0 j) r.ft) (fmul32 (laneAt r.f1 j) u)))

/-- FSRCOVER (R231): s + d·(1 − s_a), as the pseudocode has it (log entry 20). -/
def fsrcoverRule (c : Straps) (r : Request) : Answer :=
  let u := fsub32 kOne (laneAt r.f0 (laneOf c.floatLanes .a))
  require (allLanes in01 r.f0 && allLanes in01 r.f1)
    (.float (fvecOf fun j => fadd32 (laneAt r.f0 j) (fmul32 (laneAt r.f1 j) u)))

/-- FFROM32.fmt. -/
def execFfrom32 (f : Fmt) (s : State) : Host.Outcome State Fault Refusal := answer (ffrom32Rule f) s

/-- FTO32.fmt. -/
def execFto32 (f : Fmt) (s : State) : Host.Outcome State Fault Refusal := answer (fto32Rule f) s

/-- FLERP. -/
def execFlerp (s : State) : Host.Outcome State Fault Refusal := answer flerpRule s

/-- FSRCOVER. -/
def execFsrcover (s : State) : Host.Outcome State Fault Refusal := answer fsrcoverRule s

end Sys2Proof.Machine
end

