-- ==== Sys2Proof/Machine/Format.lean ====
section
/-! DEFINITION. The format encoder/decoder: EXT32, PACK32, SWAPRB, EXT565, PACK565, EXT4444, PACK4444
(41_format.md R120 to R126). -/

namespace Sys2Proof.Machine

/-- EXT32.fmt.ch (R120). -/
def ext32Rule (f : Fmt) (ch : Chan) (c : Straps) (r : Request) : Answer :=
  .integer (toBus (get32 c r.x0 f ch))

/-- PACK32.fmt (R121). -/
def pack32Rule (f : Fmt) (c : Straps) (r : Request) : Answer :=
  require (isByte r.x0 && isByte r.x1 && isByte r.x2 && isByte r.x3)
    (.integer (toBus (put32 c f r.x0.toNat r.x1.toNat r.x2.toNat r.x3.toNat)))

/-- SWAPRB (R122). -/
def swaprbRule (_ : Straps) (r : Request) : Answer :=
  .integer ((r.x0 &&& 0xFF00FF00) ||| ((r.x0 >>> 16) &&& 0xFF) ||| ((r.x0 &&& 0xFF) <<< 16))

/-- EXT565.ch (R123). With channel A the word is ILLEGAL (R88; log entry 13). -/
def ext565Rule (ch : Chan) (_ : Straps) (r : Request) : Answer :=
  if ch = .a then .illegal
  else .integer (toBus (field r.x0.toNat (pos565 ch).1 (pos565 ch).2))

/-- PACK565 (R124): X0 is ignored. -/
def pack565Rule (_ : Straps) (r : Request) : Answer :=
  require (isNarrow 5 r.x1 && isNarrow 6 r.x2 && isNarrow 5 r.x3)
    (.integer (toBus (r.x1.toNat <<< 11 ||| r.x2.toNat <<< 5 ||| r.x3.toNat)))

/-- EXT4444.ch (R125). -/
def ext4444Rule (ch : Chan) (c : Straps) (r : Request) : Answer :=
  .integer (toBus (field r.x0.toNat (pos4444 c.layout4444 ch) 4))

/-- PACK4444 (R126). -/
def pack4444Rule (c : Straps) (r : Request) : Answer :=
  require (isNarrow 4 r.x0 && isNarrow 4 r.x1 && isNarrow 4 r.x2 && isNarrow 4 r.x3)
    (.integer (toBus
      (r.x0.toNat <<< pos4444 c.layout4444 .a ||| r.x1.toNat <<< pos4444 c.layout4444 .r
        ||| r.x2.toNat <<< pos4444 c.layout4444 .g ||| r.x3.toNat <<< pos4444 c.layout4444 .b)))

/-- EXT32.fmt.ch. -/
def execExt32 (f : Fmt) (ch : Chan) (s : State) : Host.Outcome State Fault Refusal :=
  answer (ext32Rule f ch) s

/-- PACK32.fmt. -/
def execPack32 (f : Fmt) (s : State) : Host.Outcome State Fault Refusal := answer (pack32Rule f) s

/-- SWAPRB. -/
def execSwaprb (s : State) : Host.Outcome State Fault Refusal := answer swaprbRule s

/-- EXT565.ch. -/
def execExt565 (ch : Chan) (s : State) : Host.Outcome State Fault Refusal := answer (ext565Rule ch) s

/-- PACK565. -/
def execPack565 (s : State) : Host.Outcome State Fault Refusal := answer pack565Rule s

/-- EXT4444.ch. -/
def execExt4444 (ch : Chan) (s : State) : Host.Outcome State Fault Refusal := answer (ext4444Rule ch) s

/-- PACK4444. -/
def execPack4444 (s : State) : Host.Outcome State Fault Refusal := answer pack4444Rule s

end Sys2Proof.Machine
end

