-- ==== Sys2Proof/Machine/Precision.lean ====
section
/-! DEFINITION. The precision quantizer: WIDEN and NARROW (42_precision.md R150, R151). -/

namespace Sys2Proof.Machine

/-- Bit replication of a narrow value `n` of `w` bits into a byte (R150). -/
def widenValue (w n : Nat) : Nat := (n <<< (8 - w) ||| n >>> (2 * w - 8)) % 256

/-- Truncation of a byte `v` to `w` bits (R151). -/
def narrowValue (w v : Nat) : Nat := v >>> (8 - w)

/-- WIDEN.w (R150). -/
def widenRule (w : Width) (_ : Straps) (r : Request) : Answer :=
  require (isNarrow (widthBits w) r.x0) (.integer (toBus (widenValue (widthBits w) r.x0.toNat)))

/-- NARROW.w (R151). -/
def narrowRule (w : Width) (_ : Straps) (r : Request) : Answer :=
  require (isByte r.x0) (.integer (toBus (narrowValue (widthBits w) r.x0.toNat)))

/-- WIDEN.w. -/
def execWiden (w : Width) (s : State) : Host.Outcome State Fault Refusal := answer (widenRule w) s

/-- NARROW.w. -/
def execNarrow (w : Width) (s : State) : Host.Outcome State Fault Refusal := answer (narrowRule w) s

end Sys2Proof.Machine
end

