-- ==== Sys2Proof/Machine/Dispatch.lean ====
section
/-! DEFINITION. One arm per command: the meaning of each. -/

namespace Sys2Proof.Machine

def exec (i : Instr) (s : State) : Host.Outcome State Fault Refusal :=
  match i with
  | .ext32 f c => Sys2Proof.Machine.execExt32 f c s
  | .pack32 f => Sys2Proof.Machine.execPack32 f s
  | .swaprb => Sys2Proof.Machine.execSwaprb s
  | .ext565 c => Sys2Proof.Machine.execExt565 c s
  | .pack565 => Sys2Proof.Machine.execPack565 s
  | .ext4444 c => Sys2Proof.Machine.execExt4444 c s
  | .pack4444 => Sys2Proof.Machine.execPack4444 s
  | .widen w => Sys2Proof.Machine.execWiden w s
  | .narrow w => Sys2Proof.Machine.execNarrow w s
  | .blend8 => Sys2Proof.Machine.execBlend8 s
  | .scale255 => Sys2Proof.Machine.execScale255 s
  | .interp256 => Sys2Proof.Machine.execInterp256 s
  | .interp255 => Sys2Proof.Machine.execInterp255 s
  | .srcover16 f => Sys2Proof.Machine.execSrcover16 f s
  | .lum => Sys2Proof.Machine.execLum s
  | .ffrom32 f => Sys2Proof.Machine.execFfrom32 f s
  | .fto32 f => Sys2Proof.Machine.execFto32 f s
  | .flerp => Sys2Proof.Machine.execFlerp s
  | .fsrcover => Sys2Proof.Machine.execFsrcover s

end Sys2Proof.Machine
end

