-- ==== Sys2Proof/Machine/Answering.lean ====
section
/-! DEFINITION. The unit answers a request: it executes exactly the command word the request carries
(10_state.md R32), or answers ILLEGAL when decode rejects it (60_exceptions.md R261, R264). -/

namespace Sys2Proof.Machine

/-- Answer the oldest request in flight. With none in flight the unit is idle. -/
def answerOldest (s : State) : Host.Outcome State Fault Refusal :=
  match s.inFlight with
  | [] => .next s
  | r :: _ =>
    match decode r.cmd with
    | .ok i => exec i s
    | .error _ => answer (fun _ _ => .illegal) s

/-- The state with the given moves to come. -/
def State.withMoves (s : State) (ms : List Move) : State := { s with moves := ms }

/-- One move of the interface (60_exceptions.md R274). A reset is asserted and released within its move, so no
request meets a reset that is held: DESIGN CHOICE, R290 is silent on the time between (log entry 21). -/
def perform (m : Move) (s : State) : Host.Outcome State Fault Refusal :=
  match m with
  | .present r => .next (s.accept r)
  | .answer => answerOldest s
  | .take => .next s.take
  | .reset => .next s.assertReset

/-- The oldest request in flight, or the zero request. -/
def State.oldest (s : State) : Request := s.inFlight.headD .zero

end Sys2Proof.Machine
end

