-- ==== Sys2Proof/Machine/Step.lean ====
section
/-! DEFINITION. One step of the machine: the next move, or, with no move to come, the unit's own (it answers
the oldest request in flight: fairness, 70_reset_and_hazards.md R296; log entries 2 and 10). -/

namespace Sys2Proof.Machine

def step (s : State) : Host.Outcome State Fault Refusal :=
  match s.moves with
  | [] => answerOldest s
  | m :: ms => perform m (s.withMoves ms)

/-- `s` with a command word where the next step finds it: on the CMD bus of the oldest request in flight, whose
operand buses stay (all zero where no request was in flight), the response buses free, and the next move an
answer. Bits above `nbits` are 0. The unit fetches nothing (R32); log entry 11 says how commands come to it. -/
def State.withFetchWord (s : State) (nbits w : Nat) : State :=
  { s with
    inFlight  := { s.oldest with cmd := BitVec.ofNat 16 (w % 2 ^ nbits) } :: s.inFlight.tail
    presented := none
    moves     := .answer :: s.moves }

end Sys2Proof.Machine
end

