-- ==== Sys2Proof/Machine/Pseudo.lean ====
section
/-! DEFINITION. The host's side of a program: assembler names (30_encoding.md R95), host programs whose lines
forward earlier results as operand values, and the pseudo-instructions (R96). Host temporaries are not unit
state (10_state.md R31), so they stand beside State here and not in it (log entry 18). -/

namespace Sys2Proof.Machine

/-- Assembler text of a format qualifier (R95). -/
def fmtText : Fmt → String
  | .pm => ".pm"
  | .argb => ".argb"
  | .abgr => ".abgr"

/-- Assembler text of a channel qualifier (R95). -/
def chanText : Chan → String
  | .a => ".a"
  | .r => ".r"
  | .g => ".g"
  | .b => ".b"

/-- Assembler text of a width qualifier (R95). -/
def widthText : Width → String
  | .w4 => ".4"
  | .w5 => ".5"
  | .w6 => ".6"

/-- Mnemonic and qualifiers of a command, in the order R95 gives. -/
def asmText : Instr → String
  | .ext32 f c => "ext32" ++ fmtText f ++ chanText c
  | .pack32 f => "pack32" ++ fmtText f
  | .swaprb => "swaprb"
  | .ext565 c => "ext565" ++ chanText c
  | .pack565 => "pack565"
  | .ext4444 c => "ext4444" ++ chanText c
  | .pack4444 => "pack4444"
  | .widen w => "widen" ++ widthText w
  | .narrow w => "narrow" ++ widthText w
  | .blend8 => "blend8"
  | .scale255 => "scale255"
  | .interp256 => "interp256"
  | .interp255 => "interp255"
  | .srcover16 f => "srcover16" ++ fmtText f
  | .lum => "lum"
  | .ffrom32 f => "ffrom32" ++ fmtText f
  | .fto32 f => "fto32" ++ fmtText f
  | .flerp => "flerp"
  | .fsrcover => "fsrcover"

/-- The three formats. -/
def allFmts : List Fmt := [.pm, .argb, .abgr]

/-- The four channels. -/
def allChans : List Chan := [.a, .r, .g, .b]

/-- The three narrow widths. -/
def allWidths : List Width := [.w4, .w5, .w6]

/-- The commands of the unit, in the order of the opcode map (R82, R90). -/
def allCommands : List Instr := List.flatten [
  allFmts.flatMap (fun f => allChans.map (Instr.ext32 f)), allFmts.map Instr.pack32, [Instr.swaprb],
  [Instr.ext565 .r, Instr.ext565 .g, Instr.ext565 .b], [Instr.pack565],
  allChans.map Instr.ext4444, [Instr.pack4444],
  allWidths.map Instr.widen, allWidths.map Instr.narrow,
  [Instr.blend8, Instr.scale255, Instr.interp256, Instr.interp255],
  allFmts.map Instr.srcover16, [Instr.lum],
  allFmts.map Instr.ffrom32, allFmts.map Instr.fto32, [Instr.flerp, Instr.fsrcover]]

/-- The command word of an assembler mnemonic with its qualifiers (R95). -/
def assemble (text : String) : Option CmdWord :=
  (allCommands.find? fun i => asmText i == text).map encode

/-- A value of an operand (R95): an integer or binary32 literal, a float vector literal, or a host temporary. -/
inductive Value where
  | num (v : Word)
  | vec (v : FVec)
  | temp (name : String)
  deriving DecidableEq, Repr

/-- One line of a host program (R95). A bus it does not name is 0 (95_test_vectors.md). -/
structure Line where
  dest  : Option String := none
  instr : Instr
  x0    : Value := .num 0
  x1    : Value := .num 0
  x2    : Value := .num 0
  x3    : Value := .num 0
  f0    : Value := .vec .zero
  f1    : Value := .vec .zero
  ft    : Value := .num 0
  deriving DecidableEq, Repr

/-- The host's temporaries, the latest first: each keeps the response it was given. -/
abbrev Temps := List (String × Response)

/-- The response a temporary keeps, if it is defined. -/
def Temps.get (ts : Temps) (name : String) : Option Response :=
  (ts.find? fun e => e.1 == name).map fun e => e.2

/-- The value on an integer bus or on FT; of a temporary it is Y. -/
def scalarValue (ts : Temps) : Value → Option Word
  | .num v => some v
  | .vec _ => none
  | .temp n => (ts.get n).map fun p => p.y

/-- The value on a float vector bus; of a temporary it is FY. -/
def vectorValue (ts : Temps) : Value → Option FVec
  | .num _ => none
  | .vec v => some v
  | .temp n => (ts.get n).map fun p => p.fy

/-- The request of a line (R95, R274 "chaining"); none where a temporary is not defined. -/
def lineRequest (ts : Temps) (l : Line) : Option Request := do
  let x0 ← scalarValue ts l.x0
  let x1 ← scalarValue ts l.x1
  let x2 ← scalarValue ts l.x2
  let x3 ← scalarValue ts l.x3
  let f0 ← vectorValue ts l.f0
  let f1 ← vectorValue ts l.f1
  let ft ← scalarValue ts l.ft
  return ⟨encode l.instr, x0, x1, x2, x3, f0, f1, ft⟩

/-- The host presents a request, the unit answers, the host takes the response (R274, R294). -/
def runRequest (r : Request) (s : State) : Host.Outcome State Fault Refusal :=
  match perform .answer (s.accept r) with
  | .next t => .next t.take
  | o => o

/-- The temporaries after a line whose response was the last one taken. -/
def Temps.keep (ts : Temps) (l : Line) (s : State) : Temps :=
  match l.dest, s.taken.getLast? with
  | some d, some p => (d, p) :: ts
  | _, _ => ts

/-- A host program, line by line; none where a line has no request. -/
def runLines : List Line → Temps → State → Option (Temps × State)
  | [], ts, s => some (ts, s)
  | l :: ls, ts, s =>
    (lineRequest ts l).bind fun r =>
      match runRequest r s with
      | .next t => runLines ls (ts.keep l t) t
      | _ => none

/-- A host program with no temporary defined, from a state with no request in flight and no response presented
(R294; 95_test_vectors.md, "Start state of every program"). -/
def runProgram (ls : List Line) (s : State) : Option State := (runLines ls [] s).map fun e => e.2

/-! The pseudo-instructions. R96 shows no destination in the unpack macros, and says nothing of an operand that
names a temporary the macro itself writes. DESIGN CHOICE (log entry 18): the results go to a, r, g, b, and a line
reads what the lines before it left, so an operand such as `.temp "r"` has its new value from the line after the
one that writes it. -/

/-- `unpack32.fmt p` (R96). -/
def unpack32 (f : Fmt) (p : Value) : List Line := [
  { dest := "a", instr := .ext32 f .a, x0 := p }, { dest := "r", instr := .ext32 f .r, x0 := p },
  { dest := "g", instr := .ext32 f .g, x0 := p }, { dest := "b", instr := .ext32 f .b, x0 := p }]

/-- `unpack565 p` (R96). -/
def unpack565 (p : Value) : List Line := [
  { dest := "r", instr := .ext565 .r, x0 := p }, { dest := "g", instr := .ext565 .g, x0 := p },
  { dest := "b", instr := .ext565 .b, x0 := p }]

/-- `unpack4444 p` (R96). -/
def unpack4444 (p : Value) : List Line := [
  { dest := "a", instr := .ext4444 .a, x0 := p }, { dest := "r", instr := .ext4444 .r, x0 := p },
  { dest := "g", instr := .ext4444 .g, x0 := p }, { dest := "b", instr := .ext4444 .b, x0 := p }]

/-- `cvt32to565.fmt p` (R96). -/
def cvt32to565 (f : Fmt) (p : Value) : List Line := [
  { dest := "r", instr := .ext32 f .r, x0 := p }, { dest := "g", instr := .ext32 f .g, x0 := p },
  { dest := "b", instr := .ext32 f .b, x0 := p },
  { dest := "r5", instr := .narrow .w5, x0 := .temp "r" },
  { dest := "g6", instr := .narrow .w6, x0 := .temp "g" },
  { dest := "b5", instr := .narrow .w5, x0 := .temp "b" },
  { instr := .pack565, x0 := .num 0, x1 := .temp "r5", x2 := .temp "g6", x3 := .temp "b5" }]

/-- `cvt565to32.fmt p` (R96). -/
def cvt565to32 (f : Fmt) (p : Value) : List Line := unpack565 p ++ [
  { dest := "R", instr := .widen .w5, x0 := .temp "r" },
  { dest := "G", instr := .widen .w6, x0 := .temp "g" },
  { dest := "B", instr := .widen .w5, x0 := .temp "b" },
  { instr := .pack32 f, x0 := .num 255, x1 := .temp "R", x2 := .temp "G", x3 := .temp "B" }]

/-- The four temporaries a, r, g, b, each through one command, into A, R, G, B. -/
def eachThrough (i : Instr) : List Line := [
  { dest := "A", instr := i, x0 := .temp "a" }, { dest := "R", instr := i, x0 := .temp "r" },
  { dest := "G", instr := i, x0 := .temp "g" }, { dest := "B", instr := i, x0 := .temp "b" }]

/-- `cvt4444to32.fmt p` (R96). -/
def cvt4444to32 (f : Fmt) (p : Value) : List Line := unpack4444 p ++ eachThrough (.widen .w4) ++ [
  { instr := .pack32 f, x0 := .temp "A", x1 := .temp "R", x2 := .temp "G", x3 := .temp "B" }]

/-- `cvt32to4444.fmt p` (R96). -/
def cvt32to4444 (f : Fmt) (p : Value) : List Line := unpack32 f p ++ eachThrough (.narrow .w4) ++ [
  { instr := .pack4444, x0 := .temp "A", x1 := .temp "R", x2 := .temp "G", x3 := .temp "B" }]

/-- `fblend.fmt p, q, t` (R96). -/
def fblend (f : Fmt) (p q t : Value) : List Line := [
  { dest := "f0", instr := .ffrom32 f, x0 := p }, { dest := "f1", instr := .ffrom32 f, x0 := q },
  { dest := "f2", instr := .flerp, f0 := .temp "f0", f1 := .temp "f1", ft := t },
  { instr := .fto32 f, f0 := .temp "f2" }]

end Sys2Proof.Machine
end

