-- ==== Sys2Proof/Machine/Assembler.lean ====
section
/-! DEFINITION. The assembler text of a line (30_encoding.md R95), read into a line of a host program. The unit
itself has no text: this is the host's side, and the syntax is the spec's own (log entry 18). -/

namespace Sys2Proof.Machine

/-- A token of a line. -/
inductive Token where
  | word (w : String)
  | arrow
  | equals
  | comma
  | openBracket
  | closeBracket
  deriving DecidableEq, Repr

/-- The word read so far, its characters last first, if there is one. -/
def wordSoFar (acc : List Char) : List Token :=
  match acc with
  | [] => []
  | _ => [.word (String.ofList acc.reverse)]

/-- A character of a mnemonic with its qualifiers, a literal or a name. -/
def isWordChar (c : Char) : Bool := c.isAlphanum || c == '.' || c == '_'

/-- The tokens of a text; none where a character belongs to no token. -/
def tokens (acc : List Char) : List Char → Option (List Token)
  | [] => some (wordSoFar acc)
  | ' ' :: cs => (tokens [] cs).map fun ts => wordSoFar acc ++ ts
  | '<' :: '-' :: cs => (tokens [] cs).map fun ts => wordSoFar acc ++ .arrow :: ts
  | '=' :: cs => (tokens [] cs).map fun ts => wordSoFar acc ++ .equals :: ts
  | ',' :: cs => (tokens [] cs).map fun ts => wordSoFar acc ++ .comma :: ts
  | '[' :: cs => (tokens [] cs).map fun ts => wordSoFar acc ++ .openBracket :: ts
  | ']' :: cs => (tokens [] cs).map fun ts => wordSoFar acc ++ .closeBracket :: ts
  | c :: cs => if isWordChar c then tokens (c :: acc) cs else none

/-- A digit of a literal in a base of at most 16. -/
def digitValue (base : Nat) (c : Char) : Option Nat :=
  let v :=
    if c.isDigit then c.toNat - '0'.toNat
    else if 'a' ≤ c ∧ c ≤ 'f' then c.toNat - 'a'.toNat + 10
    else if 'A' ≤ c ∧ c ≤ 'F' then c.toNat - 'A'.toNat + 10
    else 16
  if v < base then some v else none

/-- The number a list of digits stands for. -/
def digitsValue (base : Nat) (acc : Nat) : List Char → Option Nat
  | [] => some acc
  | c :: cs => (digitValue base c).bind fun d => digitsValue base (acc * base + d) cs

/-- The characters of a literal, in decimal or, after `0x`, in hexadecimal. -/
def literalValue : List Char → Option Nat
  | [] => none
  | '0' :: 'x' :: c :: cs => digitsValue 16 0 (c :: cs)
  | cs => digitsValue 10 0 cs

/-- A literal of at most 32 bits. -/
def readNumber (w : String) : Option Word :=
  (literalValue w.toList).bind fun n => if n < 2 ^ 32 then some (BitVec.ofNat 32 n) else none

/-- Is the word a name (of a temporary or a bus) and not a literal? -/
def isName (w : String) : Bool :=
  match w.toList with
  | [] => false
  | c :: cs => c.isAlpha && cs.all fun d => d.isAlphanum || d == '_'

/-- One value, and the tokens after it. -/
def readValue : List Token → Option (Value × List Token)
  | .word w :: ts =>
    if isName w then some (.temp w, ts) else (readNumber w).map fun v => (.num v, ts)
  | .openBracket :: .word a :: .comma :: .word b :: .comma :: .word c :: .comma :: .word d
      :: .closeBracket :: ts => do
    let l0 ← readNumber a
    let l1 ← readNumber b
    let l2 ← readNumber c
    let l3 ← readNumber d
    return (.vec ⟨l0, l1, l2, l3⟩, ts)
  | _ => none

/-- The values of a positional operand list; `fuel` bounds their number. -/
def readPositional : Nat → List Token → Option (List Value)
  | 0, _ => none
  | fuel + 1, ts =>
    match readValue ts with
    | some (v, []) => some [v]
    | some (v, .comma :: rest) => (readPositional fuel rest).map fun vs => v :: vs
    | _ => none

/-- The line with one bus set. -/
def Line.setBus (l : Line) (bus : String) (v : Value) : Option Line :=
  if bus = "X0" then some { l with x0 := v }
  else if bus = "X1" then some { l with x1 := v }
  else if bus = "X2" then some { l with x2 := v }
  else if bus = "X3" then some { l with x3 := v }
  else if bus = "F0" then some { l with f0 := v }
  else if bus = "F1" then some { l with f1 := v }
  else if bus = "FT" then some { l with ft := v }
  else none

/-- The buses a named operand list sets, in order; `fuel` bounds their number. -/
def readNamed : Nat → List Token → Line → Option Line
  | fuel + 1, .word bus :: .equals :: ts, l =>
    match readValue ts with
    | some (v, []) => l.setBus bus v
    | some (v, .comma :: rest) => (l.setBus bus v).bind fun m => readNamed fuel rest m
    | _ => none
  | _, _, _ => none

/-- The buses positional values are assigned to (R95). -/
def positionalBuses : Instr → List String
  | .fto32 _ => ["F0", "F1", "FT"]
  | .flerp => ["F0", "F1", "FT"]
  | .fsrcover => ["F0", "F1", "FT"]
  | _ => ["X0", "X1", "X2", "X3"]

/-- Values assigned to buses in order; none where there are more values than buses. -/
def setInOrder : List Value → List String → Line → Option Line
  | [], _, l => some l
  | v :: vs, bus :: buses, l => (l.setBus bus v).bind fun m => setInOrder vs buses m
  | _ :: _, [], _ => none

/-- The operands of a line: none, named, or positional. -/
def readOperands (ts : List Token) (l : Line) : Option Line :=
  match ts with
  | [] => some l
  | .word _ :: .equals :: _ => readNamed ts.length ts l
  | _ => (readPositional ts.length ts).bind fun vs => setInOrder vs (positionalBuses l.instr) l

/-- A mnemonic with its qualifiers, and its operands. -/
def readCommand (dest : Option String) : List Token → Option Line
  | .word m :: ts =>
    (allCommands.find? fun i => asmText i == m).bind fun i =>
      readOperands ts { dest := dest, instr := i }
  | _ => none

/-- The destination, if there is one, and the command. -/
def readLine : List Token → Option Line
  | .word d :: .arrow :: ts => if isName d then readCommand (some d) ts else none
  | ts => readCommand none ts

/-- A line of assembler text (R95); none where the text is no line. -/
def assembleLine (text : String) : Option Line := (tokens [] text.toList).bind readLine

/-- A program of assembler text, one line a string. -/
def assembleProgram (texts : List String) : Option (List Line) := texts.mapM assembleLine

end Sys2Proof.Machine
end

