-- ==== Sys2Proof/Safety.lean ====
section
/-! DEFINITION. The terms claims about the unit use: when a run ends and ends successfully, the response to a
request taken alone, and what it is for a command to give an answer. -/

namespace Sys2Proof.Machine

/-- The requests a schedule still has to present. -/
def requestsOf : List Move → List Request
  | [] => []
  | .present r :: ms => r :: requestsOf ms
  | _ :: ms => requestsOf ms

/-- Every request has been accepted and every accepted request answered (70_reset_and_hazards.md R297); a
request a reset discarded has no answer, so a run that lost one has not ended. -/
def State.Ended (s : State) : Prop :=
  requestsOf s.moves = [] ∧ s.inFlight = [] ∧ s.discarded = 0

/-- The successful end of a run: ended, and no precondition violation recorded (R263, R297). -/
def State.EndedSuccessfully (s : State) : Prop := s.Ended ∧ s.fault = none

/-- A unit that holds one request and nothing else. -/
def lone (c : Straps) (r : Request) : State := { State.resetWith c with inFlight := [r] }

/-- The response to a request alone (20_memory.md R67). -/
def loneResponse (c : Straps) (r : Request) : Option Response :=
  match answerOldest (lone c r) with
  | .next t => t.presented
  | .fault _ => none
  | .refused _ => none

/-- Does the request violate a precondition of its command (60_exceptions.md R262)? -/
def violates (c : Straps) (r : Request) : Bool :=
  match answerOldest (lone c r) with
  | .next t => t.fault.isSome
  | .fault _ => false
  | .refused _ => false

/-- The responses of the run so far and still to come: taken, presented, and, for each request in flight or
still to be presented, in that order, its response alone (R66, R67, R297). -/
def State.outcome (s : State) : List Response :=
  s.taken ++ s.presented.toList
    ++ (s.inFlight ++ requestsOf s.moves).filterMap (loneResponse s.straps)

/-- The place in the outcome of the response to the oldest request in flight. -/
def State.placeOfOldest (s : State) : Nat := s.taken.length + s.presented.toList.length

/-- A request with integer operands. -/
def intRequest (i : Instr) (x0 x1 x2 x3 : Nat) : Request :=
  { Request.zero with
    cmd := encode i, x0 := toBus x0, x1 := toBus x1, x2 := toBus x2, x3 := toBus x3 }

/-- What executing a command on a request alone presents, unless it violates a precondition. -/
def result (c : Straps) (i : Instr) (r : Request) : Option Response :=
  match exec i (lone c r) with
  | .next t => if t.fault = none then t.presented else none
  | .fault _ => none
  | .refused _ => none

/-- Y of a command on integer operands: the response is OK and FY is all +0. -/
def intResult (c : Straps) (i : Instr) (x0 x1 x2 x3 : Nat) : Option Nat :=
  match result c i (intRequest i x0 x1 x2 x3) with
  | some p => if p.status = .ok ∧ p.fy = .zero then some p.y.toNat else none
  | none => none

/-- FY of a command: the response is OK and Y is 0. -/
def floatResult (c : Straps) (i : Instr) (r : Request) : Option FVec :=
  match result c i r with
  | some p => if p.status = .ok ∧ p.y = 0 then some p.fy else none
  | none => none

/-- Y of the last line of a host program on a unit right after reset, if no line violated a precondition. -/
def programResult (c : Straps) (ls : List Line) : Option Nat :=
  match runProgram ls (State.resetWith c) with
  | some t => if t.fault = none then t.taken.getLast?.map (fun p => p.y.toNat) else none
  | none => none

/-- In every state of a unit with straps `c` whose oldest request in flight is `r` and whose response buses are
free, the command answers OK with Y = `y` and FY all +0, and NOTHING ELSE changes: the straps, the younger
requests, the moves to come, the responses taken, the fault record and the counters are as before. -/
def GivesInt (i : Instr) (c : Straps) (r : Request) (y : Nat) : Prop :=
  y < 2 ^ 32 ∧ ∀ (s : State) (q : List Request), s.straps = c → s.presented = none → s.inFlight = r :: q →
    exec i s = .next { s with inFlight := q, presented := some ⟨.ok, BitVec.ofNat 32 y, ⟨0, 0, 0, 0⟩⟩ }

/-- The same for a float result: FY = `fy` and Y = 0, and nothing else changes. -/
def GivesFloat (i : Instr) (c : Straps) (r : Request) (fy : FVec) : Prop :=
  ∀ (s : State) (q : List Request), s.straps = c → s.presented = none → s.inFlight = r :: q →
    exec i s = .next { s with inFlight := q, presented := some ⟨.ok, 0, fy⟩ }

/-- The same for a precondition violation: STATUS is PRECOND in DEBUG and OK in RELEASE, Y and FY are some
value, the fault is recorded, and nothing else of the unit or the run changes (R262, R263). The free-value
counter ends at some number, which no statement rests on (log entry 6). -/
def GivesViolation (i : Instr) (c : Straps) (r : Request) : Prop :=
  ∀ (s : State) (q : List Request), s.straps = c → s.presented = none → s.inFlight = r :: q →
    ∃ (y : Word) (fy : FVec) (n : Nat),
      exec i s = .next { s with
        inFlight := q
        presented := some ⟨if c.checkMode = .debug then .precond else .ok, y, fy⟩
        fault := some .preconditionViolated
        draws := n }

end Sys2Proof.Machine
end

