-- ==== Sys2Proof/Certificates/Slice0/Obligations.lean ====
section
/-! DEFINITION. The statements for the provers, and the few terms they are written in. Values are written out
from the spec's own rules by place values and divisions, not by the model's shifts and masks. -/

namespace Sys2Proof.Statements

open Sys2Proof.Machine

/-- Decode rejects the word (30_encoding.md R90). -/
def Rejected (w : CmdWord) : Prop := ∃ e, decode w = .error e

/-- The match of a command's row (R82). -/
def rowMatch : Instr → CmdWord
  | .ext32 _ _ => 0x0400
  | .pack32 _ => 0x0800
  | .swaprb => 0x0C00
  | .ext565 _ => 0x1000
  | .pack565 => 0x1400
  | .ext4444 _ => 0x1800
  | .pack4444 => 0x1C00
  | .widen _ => 0x2000
  | .narrow _ => 0x2400
  | .blend8 => 0x4000
  | .scale255 => 0x4400
  | .interp256 => 0x4800
  | .interp255 => 0x4C00
  | .srcover16 _ => 0x5000
  | .lum => 0x5400
  | .ffrom32 _ => 0x6000
  | .fto32 _ => 0x6400
  | .flerp => 0x6800
  | .fsrcover => 0x6C00

/-- The mask of a command's row (R82): OP, RSV and every field the operation does not use. -/
def rowMask : Instr → CmdWord
  | .ext32 _ _ => 0xFC3F
  | .pack32 _ => 0xFF3F
  | .swaprb => 0xFFFF
  | .ext565 _ => 0xFCFF
  | .pack565 => 0xFFFF
  | .ext4444 _ => 0xFCFF
  | .pack4444 => 0xFFFF
  | .widen _ => 0xFFCF
  | .narrow _ => 0xFFCF
  | .blend8 => 0xFFFF
  | .scale255 => 0xFFFF
  | .interp256 => 0xFFFF
  | .interp255 => 0xFFFF
  | .srcover16 _ => 0xFF3F
  | .lum => 0xFFFF
  | .ffrom32 _ => 0xFF3F
  | .fto32 _ => 0xFF3F
  | .flerp => 0xFFFF
  | .fsrcover => 0xFFFF

/-- Does the format name variant A under the straps (41_format.md R112)? If not, it names variant B. -/
def isVariantA (c : Straps) (f : Fmt) : Bool := f == .argb || (f == .pm && c.pmOrder == .argb)

/-- The lowest bit of a channel, from the tables of R110 and R111. -/
def lowBit (c : Straps) (f : Fmt) : Chan → Nat
  | .a => 24
  | .g => 8
  | .r => if isVariantA c f then 16 else 0
  | .b => if isVariantA c f then 0 else 16

/-- The channel of a packed 32-bit color. -/
def chan32 (c : Straps) (f : Fmt) (ch : Chan) (p : Word) : Nat := (p.extractLsb' (lowBit c f ch) 8).toNat

/-- A packed 32-bit color by place values (R110, R111). -/
def color32 (c : Straps) (f : Fmt) (a r g b : Nat) : Nat :=
  if isVariantA c f then a * 2 ^ 24 + r * 2 ^ 16 + g * 2 ^ 8 + b
  else a * 2 ^ 24 + b * 2 ^ 16 + g * 2 ^ 8 + r

/-- Byte `i` of a word (43_blend.md R175). -/
def byte32 (p : Word) (i : Nat) : Nat := (p.extractLsb' (8 * i) 8).toNat

/-- A 4444 color by place values under LAYOUT_4444 (R114). -/
def color4444 (c : Straps) (a r g b : Nat) : Nat :=
  if c.layout4444 = .argb then a * 4096 + r * 256 + g * 16 + b else r * 4096 + g * 256 + b * 16 + a

/-- The lowest bit of a 4444 channel under LAYOUT_4444 (R114). -/
def lowBit4444 (c : Straps) : Chan → Nat
  | .a => if c.layout4444 = .argb then 12 else 0
  | .r => if c.layout4444 = .argb then 8 else 12
  | .g => if c.layout4444 = .argb then 4 else 8
  | .b => if c.layout4444 = .argb then 0 else 4

/-- The number of bits of a narrow width (R85). -/
def bitsOf : Width → Nat
  | .w4 => 4
  | .w5 => 5
  | .w6 => 6

/-- BLEND_BIAS (R16). -/
def biasOf (c : Straps) : Nat := if c.blendBias = .bias128 then 128 else 0

/-- The byte blend, second form (R171). -/
def mix (c : Straps) (s d k : Nat) : Nat := (s * k + d * (256 - k) + biasOf c) / 256

/-- The four-byte interpolation (R175). -/
def mix32 (c : Straps) (s d : Word) (k : Nat) : Nat :=
  mix c (byte32 s 0) (byte32 d 0) k + mix c (byte32 s 1) (byte32 d 1) k * 2 ^ 8
    + mix c (byte32 s 2) (byte32 d 2) k * 2 ^ 16 + mix c (byte32 s 3) (byte32 d 3) k * 2 ^ 24

/-- A 255-scale weight as a 256-scale weight (R174, by its corner cases). -/
def scaled (w : Nat) : Nat := if w ≤ 127 then w else w + 1

/-- One channel of src-over (R186, R187): source byte `v`, destination channel `d` of `n` bits, alpha `a`. -/
def overChannel (v d a n : Nat) : Nat :=
  let p := d * (255 - a) + 2 ^ (n - 1)
  (v + (p + p / 2 ^ n) / 2 ^ n) / 2 ^ (8 - n)

/-- The lanes of a float vector under FLOAT_LANES (10_state.md R39). -/
def lanes (c : Straps) (g : Chan → Word) : FVec :=
  if c.floatLanes = .argb then ⟨g .a, g .r, g .g, g .b⟩ else ⟨g .r, g .g, g .b, g .a⟩

/-- The channel of a float vector under FLOAT_LANES (R39). -/
def chanLane (c : Straps) (v : FVec) : Chan → Word
  | .a => if c.floatLanes = .argb then v.lane0 else v.lane3
  | .r => if c.floatLanes = .argb then v.lane1 else v.lane0
  | .g => if c.floatLanes = .argb then v.lane2 else v.lane1
  | .b => if c.floatLanes = .argb then v.lane3 else v.lane2

/-- A binary32 pattern in [0,1]: +0 up to 1.0, or −0 (44_float.md R220, R223). -/
def InUnit (x : Word) : Prop := x.toNat ≤ 0x3F800000 ∨ x = 0x80000000

/-- A NaN pattern: exponent all ones, fraction not 0 (R220). -/
def NaNPattern (x : Word) : Prop := 0x7F800000 < x.toNat % 2 ^ 31

/-- A finite pattern (R220). -/
def FinitePattern (x : Word) : Prop := x.toNat % 2 ^ 31 < 0x7F800000

/-- Every lane of a float vector. -/
def EveryLane (P : Word → Prop) (v : FVec) : Prop := P v.lane0 ∧ P v.lane1 ∧ P v.lane2 ∧ P v.lane3

/-- The float of a byte (R222, R225). -/
def byteFloat (n : Nat) : Word := fmul32 (u8ToF32 n) 0x3B808081

/-- `b` is the integer nearest to 255 times the clamped lane, a tie as FLOAT_TIES says (R227). `value` counts in
units of 2^-149. -/
def NearestByte (t : FloatTies) (v : Word) (b : Nat) : Prop :=
  let d : Int := 2 * (value (fmul32 (clamp01 v) 0x437F0000) - (b : Int) * 2 ^ 149);
  d.natAbs ≤ 2 ^ 149 ∧ (t = .tiesUp → d ≠ 2 ^ 149) ∧
    (t = .tiesEven → (d = 2 ^ 149 ∨ d = -(2 ^ 149)) → b % 2 = 0)

/-- `z` is the binary32 nearest to `e · 2^(-149-k)`, ties to even; at and above half a last place over the
largest finite value it is an infinity (R221). -/
def NearestFloat (e : Int) (k : Nat) (z : Word) : Prop :=
  if e.natAbs < (2 ^ 25 - 1) * 2 ^ (252 + k) then
    FinitePattern z ∧ ∀ w, FinitePattern w →
      (e - value z * 2 ^ k).natAbs ≤ (e - value w * 2 ^ k).natAbs ∧
      ((e - value z * 2 ^ k).natAbs = (e - value w * 2 ^ k).natAbs → value w = value z ∨ z.toNat % 2 = 0)
  else z = if e < 0 then 0xFF800000 else 0x7F800000

/-- The endpoint of FLERP that keeps `kept` and weighs `other` by 0 (R235). -/
def endpoint (other kept : Word) : Word :=
  if kept = 0x80000000 ∧ other.getLsbD 31 = false then 0 else kept

/-- The two requests agree on every bus, and every bit of one, that the command's rule reads (R38, R91). -/
def SameReads (i : Instr) (r r' : Request) : Prop :=
  match i with
  | .ext32 _ _ => r.x0 = r'.x0
  | .pack32 _ => r.x0 = r'.x0 ∧ r.x1 = r'.x1 ∧ r.x2 = r'.x2 ∧ r.x3 = r'.x3
  | .swaprb => r.x0 = r'.x0
  | .ext565 _ => r.x0.extractLsb' 0 16 = r'.x0.extractLsb' 0 16
  | .pack565 => r.x1 = r'.x1 ∧ r.x2 = r'.x2 ∧ r.x3 = r'.x3
  | .ext4444 _ => r.x0.extractLsb' 0 16 = r'.x0.extractLsb' 0 16
  | .pack4444 => r.x0 = r'.x0 ∧ r.x1 = r'.x1 ∧ r.x2 = r'.x2 ∧ r.x3 = r'.x3
  | .widen _ => r.x0 = r'.x0
  | .narrow _ => r.x0 = r'.x0
  | .blend8 => r.x0 = r'.x0 ∧ r.x1 = r'.x1 ∧ r.x2 = r'.x2
  | .scale255 => r.x0 = r'.x0
  | .interp256 => r.x0 = r'.x0 ∧ r.x1 = r'.x1 ∧ r.x2 = r'.x2
  | .interp255 => r.x0 = r'.x0 ∧ r.x1 = r'.x1 ∧ r.x2 = r'.x2
  | .srcover16 _ => r.x0 = r'.x0 ∧ r.x1.extractLsb' 0 16 = r'.x1.extractLsb' 0 16
  | .lum => r.x0 = r'.x0 ∧ r.x1 = r'.x1 ∧ r.x2 = r'.x2
  | .ffrom32 _ => r.x0 = r'.x0
  | .fto32 _ => r.f0 = r'.f0
  | .flerp => r.f0 = r'.f0 ∧ r.f1 = r'.f1 ∧ r.ft = r'.ft
  | .fsrcover => r.f0 = r'.f0 ∧ r.f1 = r'.f1

/-- The commands with a float result (R37). -/
def hasFloatResult (i : Instr) : Prop := (∃ f, i = .ffrom32 f) ∨ i = .flerp ∨ i = .fsrcover

/-- What every response given so far satisfies: an ILLEGAL one carries zeros (R261); a PRECOND one is given in
DEBUG only and leaves the fault recorded (R262, R263); and while no fault is recorded one of the two result
buses carries zeros (R37). -/
def ResponsesInv (s : State) : Prop :=
  ∀ p ∈ s.taken ++ s.presented.toList,
    (p.status = .illegal → p.y = 0 ∧ p.fy = ⟨0, 0, 0, 0⟩) ∧
    (p.status = .precond → s.straps.checkMode = .debug ∧ s.fault = some .preconditionViolated) ∧
    (s.fault = none → p.y = 0 ∨ p.fy = ⟨0, 0, 0, 0⟩)

/-- The schedule in which the host presents a request, the unit answers it and the host takes the response, one
request after the other. -/
def oneByOne (rs : List Request) : List Move := rs.flatMap fun r => [.present r, .answer, .take]

/-- The responses of a run answer its requests: one each, in order, with the STATUS the request has alone, and
whole where the request violates no precondition; and the run is successful exactly when none does (R297). -/
def AnswersAll (c : Straps) (rs : List Request) (t : State) : Prop :=
  let ps := t.taken ++ t.presented.toList
  ps.map (fun p => some p.status) = rs.map (fun r => (loneResponse c r).map fun p => p.status) ∧
  (∀ (n : Nat) (r : Request), rs[n]? = some r → violates c r = false → ps[n]? = loneResponse c r) ∧
  (t.EndedSuccessfully ↔ ∀ r ∈ rs, violates c r = false)

end Sys2Proof.Statements

open Sys2Proof Sys2Proof.Machine Sys2Proof.Statements

/-! ## Encoding -/

/-- Words of every family, written out from the tables of 30_encoding.md R81 to R85 and the examples of R95. -/
def Obligations.DecodeSampleWords : Prop :=
  decode 0b0000010100000000 = .ok (.ext32 .pm .r) ∧
  decode 0b0000011110000000 = .ok (.ext32 .abgr .b) ∧
  decode 0b0000110000000000 = .ok .swaprb ∧
  decode 0b0001001000000000 = .ok (.ext565 .g) ∧
  decode 0b0010000000010000 = .ok (.widen .w5) ∧
  decode 0b0010010000100000 = .ok (.narrow .w6) ∧
  decode 0b0100110000000000 = .ok .interp255 ∧
  decode 0b0101000001000000 = .ok (.srcover16 .argb) ∧
  decode 0b0110010010000000 = .ok (.fto32 .abgr) ∧
  decode 0b0110110000000000 = .ok .fsrcover

/-- Decode and encode agree, both ways: a word decodes to a command exactly when the command is a command of the
unit and the word is its encoding. -/
def Obligations.DecodeAndEncodeAgree : Prop :=
  ∀ (w : CmdWord) (i : Instr), decode w = .ok i ↔ i.wf = true ∧ encode i = w

/-- Exactly 47 words are legal, and they encode the commands R90 lists. -/
def Obligations.FortySevenWordsAreLegal : Prop :=
  allCommands.length = 47 ∧ (allCommands.map encode).Nodup ∧
  (∀ i : Instr, i.wf = true → i ∈ allCommands) ∧
  ∀ w : CmdWord, (∃ i, decode w = .ok i) ↔ w ∈ allCommands.map encode

/-- R86 and R88; the last two clauses are R89's first sentence. -/
def Obligations.ReservedEncodingsAreIllegal : Prop :=
  ∀ w : CmdWord,
    (w.extractLsb' 0 4 ≠ 0 → Rejected w) ∧
    ((w.extractLsb' 10 6).toNat ∈ [0x01, 0x02, 0x14, 0x18, 0x19] → w.extractLsb' 6 2 = 3 → Rejected w) ∧
    ((w.extractLsb' 10 6).toNat ∈ [0x08, 0x09] → w.extractLsb' 4 2 = 3 → Rejected w) ∧
    ((w.extractLsb' 10 6).toNat = 0x04 → w.extractLsb' 8 2 = 0 → Rejected w) ∧
    ((w.extractLsb' 10 6).toNat ∉ [0x01, 0x02, 0x03, 0x04, 0x05, 0x06, 0x07, 0x08, 0x09,
      0x10, 0x11, 0x12, 0x13, 0x14, 0x15, 0x18, 0x19, 0x1A, 0x1B] → Rejected w) ∧
    Rejected 0

/-- R87: a legal word agrees with its row's match under its row's mask, which holds OP, RSV and every field the
operation does not use; so a word with a non-zero unused field is ILLEGAL. -/
def Obligations.LegalWordsMatchTheirRow : Prop :=
  ∀ (w : CmdWord) (i : Instr), decode w = .ok i → w &&& rowMask i = rowMatch i

/-! ## The interface: requests, responses, reset, runs -/

/-- When the command word of the oldest request in flight decodes, a step of the unit is the meaning of that
command at that state, with the move that called for it used up. That a step with no move to come answers is the
model's choice (log entry 10), and so is where `withFetchWord` places a word (log entry 11). -/
def Obligations.StepRunsTheDecodedCommand : Prop :=
  (∀ (s : State) (r : Request) (q : List Request) (i : Instr),
    s.inFlight = r :: q → decode r.cmd = .ok i →
      (s.moves = [] → step s = exec i s) ∧
      (∀ ms, s.moves = .answer :: ms → step s = exec i { s with moves := ms })) ∧
  ∀ (s : State) (nbits w : Nat) (i : Instr), decode (BitVec.ofNat 16 (w % 2 ^ nbits)) = .ok i →
    step (s.withFetchWord nbits w) = exec i { s.withFetchWord nbits w with moves := s.moves }

/-- R261: a rejected word is answered STATUS = 1, Y = 0, FY = +0 in both check modes, whatever the operands, and
nothing else changes. -/
def Obligations.IllegalWordIsAnswered : Prop :=
  Status.code .illegal = 1 ∧
  ∀ (s : State) (r : Request) (q : List Request),
    s.presented = none → s.inFlight = r :: q → Rejected r.cmd →
      (s.moves = [] →
        step s = .next { s with inFlight := q, presented := some ⟨.illegal, 0, ⟨0, 0, 0, 0⟩⟩ }) ∧
      (∀ ms, s.moves = .answer :: ms →
        step s = .next { s with
          moves := ms, inFlight := q, presented := some ⟨.illegal, 0, ⟨0, 0, 0, 0⟩⟩ })

/-- R264: one response reports one outcome, ILLEGAL before PRECOND before OK, by the step that answers the oldest
request; and the codes of the outcomes, of which code 3 is none (R36, R260). -/
def Obligations.OneOutcomeInPriorityOrder : Prop :=
  (Status.code .ok = 0 ∧ Status.code .illegal = 1 ∧ Status.code .precond = 2 ∧ ∀ x, Status.code x ≠ 3) ∧
  ∀ (s : State) (r : Request) (q : List Request),
    s.presented = none → s.inFlight = r :: q → (s.moves = [] ∨ s.moves.head? = some .answer) →
      ∃ t p, step s = .next t ∧ t.presented = some p ∧ t.inFlight = q ∧
        (Rejected r.cmd → p.status = .illegal ∧ t.fault = s.fault) ∧
        (¬ Rejected r.cmd → violates s.straps r = true →
          p.status = (if s.straps.checkMode = .debug then .precond else .ok) ∧
          t.fault = some .preconditionViolated) ∧
        (¬ Rejected r.cmd → violates s.straps r = false → p.status = .ok ∧ t.fault = s.fault)

/-- No step stops the unit: there is no state in which it locks up, faults or refuses. -/
def Obligations.EveryStepAnswersANextState : Prop :=
  ∀ s : State, ∃ t, step s = .next t

/-- R290: reset discards what is in flight, withdraws the presented response and changes nothing else of the
unit; the first response after it belongs to the first request accepted after it, and is the one that request
has alone. What the run's own counter of lost requests becomes is left unsaid, and so is the run's fault record
(`FaultIsNeverCleared` speaks of it). -/
def Obligations.ResetDiscardsWhatIsInFlight : Prop :=
  (∀ (s : State) (ms : List Move), s.moves = .reset :: ms →
    ∃ n f, step s = .next { s with
      moves := ms, inFlight := [], presented := none, discarded := n, fault := f }) ∧
  ∀ (s : State) (r : Request) (ms : List Move), s.moves = .reset :: .present r :: .answer :: ms →
    ∃ t : State, Host.Core.run core 3 s = .next t ∧ t.inFlight = [] ∧ t.presented.isSome = true ∧
      (violates s.straps r = false → t.presented = loneResponse s.straps r)

/-- Accepting a request makes it the youngest in flight; taking a response moves it to the responses taken, and
with none presented takes nothing. The order is R66's; the moves are the model's (log entries 2 and 10). -/
def Obligations.AcceptingAndTakingKeepOrder : Prop :=
  (∀ (s : State) (r : Request) (ms : List Move), s.moves = .present r :: ms →
    step s = .next { s with moves := ms, inFlight := s.inFlight ++ [r] }) ∧
  (∀ (s : State) (p : Response) (ms : List Move), s.moves = .take :: ms → s.presented = some p →
    step s = .next { s with moves := ms, presented := none, taken := s.taken ++ [p] }) ∧
  (∀ (s : State) (ms : List Move), s.moves = .take :: ms → s.presented = none →
    step s = .next { s with moves := ms })

/-- R67, as a law of every step: whatever the schedule, a step other than a reset keeps the run's outcome, in
which each request, in acceptance order, has the response it has alone. Only the answer to a violating request
may differ, in its own place and on its result buses alone, which carry any value: every other response and
every STATUS is kept. -/
def Obligations.EveryStepKeepsTheOutcome : Prop :=
  ∀ s t : State, step s = .next t → s.moves.head? ≠ some .reset →
    ((∀ r ∈ s.inFlight.head?, violates s.straps r = false) → t.outcome = s.outcome) ∧
    (∀ n, n ≠ s.placeOfOldest → t.outcome[n]? = s.outcome[n]?) ∧
    t.outcome.map (fun p => p.status) = s.outcome.map (fun p => p.status)

/-- No step changes a strap (R291). -/
def Obligations.StrapsNeverChange : Prop :=
  ∀ s t : State, step s = .next t → t.straps = s.straps

/-- A recorded fault is never cleared, not by a reset either, and one is recorded only when a request that
violates a precondition is answered (R263; that a reset keeps it is the model's reading, log entry 8). -/
def Obligations.FaultIsNeverCleared : Prop :=
  ∀ s t : State, step s = .next t →
    (∀ f, s.fault = some f → t.fault = some f) ∧
    (s.fault = none → t.fault ≠ none →
      ∃ r q, s.inFlight = r :: q ∧ t.inFlight = q ∧ violates s.straps r = true)

/-- A run of any requests, however scheduled, that ends with no reset in it has answered every request, in order
(R66, R67, R297), and it is successful exactly when no request violates a precondition; and any finite sequence of
requests, presented, answered and taken one by one, does end. That a schedule is a list of moves is the model's
choice (log entry 2). -/
def Obligations.EveryRunAnswersAllItsRequests : Prop :=
  (∀ (c : Straps) (ms : List Move) (k : Nat) (t : State), Move.reset ∉ ms →
    Host.Core.run core k ({ State.resetWith c with moves := ms } : State) = .next t → t.Ended →
      AnswersAll c (requestsOf ms) t) ∧
  ∀ (c : Straps) (rs : List Request),
    ∃ t : State,
      Host.Core.run core (3 * rs.length) ({ State.resetWith c with moves := oneByOne rs } : State) = .next t ∧
      t.Ended ∧ t.presented = none ∧ AnswersAll c rs t

/-- R38: a bus the command's rule does not read, and a bit it ignores, have no effect: two requests that agree
on what the rule reads get the same STATUS and the same fault record, and the same whole next state unless they
violate a precondition (then the result buses carry any value). -/
def Obligations.IgnoredBusesHaveNoEffect : Prop :=
  ∀ (i : Instr) (s : State) (r r' : Request) (q : List Request),
    s.presented = none → SameReads i r r' →
      ∃ t t' p p', exec i { s with inFlight := r :: q } = .next t ∧
        exec i { s with inFlight := r' :: q } = .next t' ∧
        t.presented = some p ∧ t'.presented = some p' ∧ p'.status = p.status ∧ t'.fault = t.fault ∧
        (result s.straps i r ≠ none → t' = t)

/-- R37: the result bus a rule does not name carries zeros; an ILLEGAL response carries zeros on both; and on a
precondition violation the fault is recorded and nothing is said of the buses. -/
def Obligations.UnnamedResultBusesAreZero : Prop :=
  (∀ (c : Straps) (i : Instr) (r : Request), i.wf = true →
    (∃ p, result c i r = some p ∧ p.status = .ok ∧
      (hasFloatResult i → p.y = 0) ∧ (¬ hasFloatResult i → p.fy = ⟨0, 0, 0, 0⟩)) ∨
    (∃ t, exec i (lone c r) = .next t ∧ t.fault = some .preconditionViolated)) ∧
  ∀ (c : Straps) (r : Request), Rejected r.cmd → loneResponse c r = some ⟨.illegal, 0, ⟨0, 0, 0, 0⟩⟩

/-- Every step keeps the invariant of the responses given. -/
def Obligations.EveryStepKeepsTheResponsesInvariant : Prop :=
  ∀ s t : State, ResponsesInv s → step s = .next t → ResponsesInv t

/-- The invariant of the responses given holds right after reset, whatever the straps. -/
def Obligations.ResetMeetsTheResponsesInvariant : Prop :=
  (∀ c : Straps, ResponsesInv (State.resetWith c)) ∧ ResponsesInv State.reset

/-- With no request in flight, or while a response waits to be taken, a command changes nothing: the answer
waits. The model's reading of R66 and R274 (log entries 4 and 10). -/
def Obligations.CommandsWaitForARequestAndTheBuses : Prop :=
  ∀ (i : Instr) (s : State), (s.inFlight = [] ∨ s.presented ≠ none) → exec i s = .next s

/-- The frame of every command: straps, moves, responses taken and the count of lost requests stay, and the
requests in flight lose at most the oldest. -/
def Obligations.CommandsLeaveTheRestUnchanged : Prop :=
  ∀ (i : Instr) (s t : State), exec i s = .next t →
    t.straps = s.straps ∧ t.moves = s.moves ∧ t.taken = s.taken ∧ t.discarded = s.discarded ∧
    (t = s ∨ ∃ r p, s.presented = none ∧ s.inFlight = r :: t.inFlight ∧ t.presented = some p)

/-- Right after reset no request is in flight, no response is valid, no fault is recorded and the straps have
their values (R50, R293); and the first request is answered with no initialisation, with the response it has
alone unless it violates a precondition (then the result buses carry any value), and in any case with its STATUS. -/
def Obligations.ResetStateIsReady : Prop :=
  ∀ c : Straps,
    (State.resetWith c).inFlight = [] ∧ (State.resetWith c).presented = none ∧
    (State.resetWith c).fault = none ∧ (State.resetWith c).straps = c ∧
    ∀ r : Request, ∃ (t : State) (p : Response),
      Host.Core.run core 2 ({ State.resetWith c with moves := [.present r, .answer] } : State) = .next t ∧
      t.presented = some p ∧ t.inFlight = [] ∧
      (loneResponse c r).map (fun p => p.status) = some p.status ∧
      (violates c r = false → loneResponse c r = some p)

/-! ## The format encoder/decoder -/

/-- R120. -/
def Obligations.Ext32ExtractsOneChannel : Prop :=
  ∀ (c : Straps) (f : Fmt) (ch : Chan) (r : Request),
    decode (0x0400 + 0x100 * ch.code + 0x40 * f.code) = .ok (.ext32 f ch) ∧
    Rejected (0x04C0 + 0x100 * ch.code) ∧
    GivesInt (.ext32 f ch) c r (chan32 c f ch r.x0)

/-- R121. -/
def Obligations.Pack32PacksFourChannels : Prop :=
  ∀ (c : Straps) (f : Fmt) (r : Request),
    decode (0x0800 + 0x40 * f.code) = .ok (.pack32 f) ∧ Rejected 0x08C0 ∧
    (r.x0.toNat ≤ 255 ∧ r.x1.toNat ≤ 255 ∧ r.x2.toNat ≤ 255 ∧ r.x3.toNat ≤ 255 →
      GivesInt (.pack32 f) c r (color32 c f r.x0.toNat r.x1.toNat r.x2.toNat r.x3.toNat)) ∧
    (r.x0.toNat > 255 ∨ r.x1.toNat > 255 ∨ r.x2.toNat > 255 ∨ r.x3.toNat > 255 →
      GivesViolation (.pack32 f) c r)

/-- R122. -/
def Obligations.SwaprbExchangesRedAndBlue : Prop :=
  ∀ (c : Straps) (r : Request),
    decode 0x0C00 = .ok .swaprb ∧
    GivesInt .swaprb c r
      (byte32 r.x0 3 * 2 ^ 24 + byte32 r.x0 0 * 2 ^ 16 + byte32 r.x0 1 * 2 ^ 8 + byte32 r.x0 2)

/-- R123. -/
def Obligations.Ext565ExtractsOneChannel : Prop :=
  ∀ (c : Straps) (r : Request),
    decode 0x1100 = .ok (.ext565 .r) ∧ decode 0x1200 = .ok (.ext565 .g) ∧
    decode 0x1300 = .ok (.ext565 .b) ∧ Rejected 0x1000 ∧
    GivesInt (.ext565 .r) c r (r.x0.extractLsb' 11 5).toNat ∧
    GivesInt (.ext565 .g) c r (r.x0.extractLsb' 5 6).toNat ∧
    GivesInt (.ext565 .b) c r (r.x0.extractLsb' 0 5).toNat

/-- R124: X0 is ignored. -/
def Obligations.Pack565PacksThreeChannels : Prop :=
  ∀ (c : Straps) (r : Request),
    decode 0x1400 = .ok .pack565 ∧
    (r.x1.toNat ≤ 31 ∧ r.x2.toNat ≤ 63 ∧ r.x3.toNat ≤ 31 →
      GivesInt .pack565 c r (r.x1.toNat * 2048 + r.x2.toNat * 32 + r.x3.toNat)) ∧
    (r.x1.toNat > 31 ∨ r.x2.toNat > 63 ∨ r.x3.toNat > 31 → GivesViolation .pack565 c r)

/-- R125. -/
def Obligations.Ext4444ExtractsOneChannel : Prop :=
  ∀ (c : Straps) (ch : Chan) (r : Request),
    decode (0x1800 + 0x100 * ch.code) = .ok (.ext4444 ch) ∧
    GivesInt (.ext4444 ch) c r (r.x0.extractLsb' (lowBit4444 c ch) 4).toNat

/-- R126. -/
def Obligations.Pack4444PacksFourChannels : Prop :=
  ∀ (c : Straps) (r : Request),
    decode 0x1C00 = .ok .pack4444 ∧
    (r.x0.toNat ≤ 15 ∧ r.x1.toNat ≤ 15 ∧ r.x2.toNat ≤ 15 ∧ r.x3.toNat ≤ 15 →
      GivesInt .pack4444 c r (color4444 c r.x0.toNat r.x1.toNat r.x2.toNat r.x3.toNat)) ∧
    (r.x0.toNat > 15 ∨ r.x1.toNat > 15 ∨ r.x2.toNat > 15 ∨ r.x3.toNat > 15 →
      GivesViolation .pack4444 c r)

/-- R130. -/
def Obligations.PackThenExtractRecoversTheChannels : Prop :=
  ∀ c : Straps,
    (∀ (f : Fmt) (a r g b : Nat), a ≤ 255 → r ≤ 255 → g ≤ 255 → b ≤ 255 →
      ∃ p, intResult c (.pack32 f) a r g b = some p ∧
        intResult c (.ext32 f .a) p 0 0 0 = some a ∧ intResult c (.ext32 f .r) p 0 0 0 = some r ∧
        intResult c (.ext32 f .g) p 0 0 0 = some g ∧ intResult c (.ext32 f .b) p 0 0 0 = some b) ∧
    (∀ x r g b : Nat, r ≤ 31 → g ≤ 63 → b ≤ 31 →
      ∃ p, intResult c .pack565 x r g b = some p ∧ intResult c (.ext565 .r) p 0 0 0 = some r ∧
        intResult c (.ext565 .g) p 0 0 0 = some g ∧ intResult c (.ext565 .b) p 0 0 0 = some b) ∧
    (∀ a r g b : Nat, a ≤ 15 → r ≤ 15 → g ≤ 15 → b ≤ 15 →
      ∃ p, intResult c .pack4444 a r g b = some p ∧
        intResult c (.ext4444 .a) p 0 0 0 = some a ∧ intResult c (.ext4444 .r) p 0 0 0 = some r ∧
        intResult c (.ext4444 .g) p 0 0 0 = some g ∧ intResult c (.ext4444 .b) p 0 0 0 = some b)

/-- R131 and R132. -/
def Obligations.SwaprbConvertsBetweenTheVariants : Prop :=
  ∀ c : Straps,
    (∀ p : Nat, p < 2 ^ 32 →
      ∃ q, intResult c .swaprb p 0 0 0 = some q ∧ intResult c .swaprb q 0 0 0 = some p ∧
        ∀ ch, intResult c (.ext32 .abgr ch) q 0 0 0 = intResult c (.ext32 .argb ch) p 0 0 0 ∧
          intResult c (.ext32 .argb ch) q 0 0 0 = intResult c (.ext32 .abgr ch) p 0 0 0) ∧
    (∀ a r g b : Nat, a ≤ 255 → r ≤ 255 → g ≤ 255 → b ≤ 255 →
      ∃ p q, intResult c (.pack32 .argb) a r g b = some p ∧ intResult c .swaprb p 0 0 0 = some q ∧
        intResult c (.pack32 .abgr) a r g b = some q)

/-! ## The precision quantizer -/

/-- R150. -/
def Obligations.WidenReplicatesBits : Prop :=
  ∀ (c : Straps) (r : Request),
    decode 0x2000 = .ok (.widen .w4) ∧ decode 0x2010 = .ok (.widen .w5) ∧
    decode 0x2020 = .ok (.widen .w6) ∧ Rejected 0x2030 ∧
    (r.x0.toNat < 16 → GivesInt (.widen .w4) c r (r.x0.toNat * 16 + r.x0.toNat)) ∧
    (r.x0.toNat < 32 → GivesInt (.widen .w5) c r (r.x0.toNat * 8 + r.x0.toNat / 4)) ∧
    (r.x0.toNat < 64 → GivesInt (.widen .w6) c r (r.x0.toNat * 4 + r.x0.toNat / 16)) ∧
    ∀ w : Width, 2 ^ bitsOf w ≤ r.x0.toNat → GivesViolation (.widen w) c r

/-- R151. -/
def Obligations.NarrowTruncates : Prop :=
  ∀ (c : Straps) (r : Request),
    decode 0x2400 = .ok (.narrow .w4) ∧ decode 0x2410 = .ok (.narrow .w5) ∧
    decode 0x2420 = .ok (.narrow .w6) ∧ Rejected 0x2430 ∧
    (r.x0.toNat ≤ 255 → GivesInt (.narrow .w4) c r (r.x0.toNat / 16) ∧
      GivesInt (.narrow .w5) c r (r.x0.toNat / 8) ∧ GivesInt (.narrow .w6) c r (r.x0.toNat / 4)) ∧
    (r.x0.toNat > 255 → ∀ w : Width, GivesViolation (.narrow w) c r)

/-- R152 and R154. -/
def Obligations.NarrowOfWidenIsExact : Prop :=
  ∀ (c : Straps) (w : Width),
    (∀ n, n < 2 ^ bitsOf w →
      ∃ v, intResult c (.widen w) n 0 0 0 = some v ∧ intResult c (.narrow w) v 0 0 0 = some n) ∧
    intResult c (.widen w) 0 0 0 0 = some 0 ∧
    intResult c (.widen w) (2 ^ bitsOf w - 1) 0 0 0 = some 255

/-- R153: the bound, that it is reached, and how many bytes return unchanged and which. -/
def Obligations.WidenOfNarrowIsWithinAStep : Prop :=
  ∀ (c : Straps) (w : Width),
    let back := fun v => (intResult c (.narrow w) v 0 0 0).bind fun n => intResult c (.widen w) n 0 0 0
    (∀ v, v ≤ 255 → ∃ u, back v = some u ∧ u ≤ v + (2 ^ (8 - bitsOf w) - 1) ∧
      v ≤ u + (2 ^ (8 - bitsOf w) - 1)) ∧
    (∃ v u, v ≤ 255 ∧ back v = some u ∧
      (u = v + (2 ^ (8 - bitsOf w) - 1) ∨ v = u + (2 ^ (8 - bitsOf w) - 1))) ∧
    (w = .w4 → back 15 = some 0 ∧ back 240 = some 255) ∧ (w = .w5 → back 7 = some 0) ∧
    ((List.range 256).filter fun v => back v == some v).length = 2 ^ bitsOf w ∧
    ∀ v, v ≤ 255 →
      (back v = some v ↔ ∃ n, n < 2 ^ bitsOf w ∧ intResult c (.widen w) n 0 0 0 = some v)

/-! ## Integer blending -/

/-- R173, with the byte blend in its second form. -/
def Obligations.Blend8BlendsTwoBytes : Prop :=
  ∀ (c : Straps) (r : Request),
    decode 0x4000 = .ok .blend8 ∧
    (r.x0.toNat ≤ 255 ∧ r.x1.toNat ≤ 255 ∧ r.x2.toNat ≤ 256 →
      GivesInt .blend8 c r (mix c r.x0.toNat r.x1.toNat r.x2.toNat)) ∧
    (r.x0.toNat > 255 ∨ r.x1.toNat > 255 ∨ r.x2.toNat > 256 → GivesViolation .blend8 c r)

/-- R174. -/
def Obligations.Scale255ConvertsTheWeight : Prop :=
  ∀ (c : Straps) (r : Request),
    decode 0x4400 = .ok .scale255 ∧
    (r.x0.toNat ≤ 255 → GivesInt .scale255 c r (r.x0.toNat + r.x0.toNat / 128) ∧
      r.x0.toNat + r.x0.toNat / 128 = scaled r.x0.toNat) ∧
    (r.x0.toNat > 255 → GivesViolation .scale255 c r)

/-- R176, by every datapath. -/
def Obligations.Interp256InterpolatesFourBytes : Prop :=
  ∀ (c : Straps) (r : Request),
    decode 0x4800 = .ok .interp256 ∧
    (r.x2.toNat ≤ 256 → GivesInt .interp256 c r (mix32 c r.x0 r.x1 r.x2.toNat)) ∧
    (r.x2.toNat > 256 → GivesViolation .interp256 c r)

/-- R181, by every datapath. -/
def Obligations.Interp255InterpolatesFourBytes : Prop :=
  ∀ (c : Straps) (r : Request),
    decode 0x4C00 = .ok .interp255 ∧
    (r.x2.toNat ≤ 255 → GivesInt .interp255 c r (mix32 c r.x0 r.x1 (scaled r.x2.toNat))) ∧
    (r.x2.toNat > 255 → GivesViolation .interp255 c r)

/-- R187: bits 31:16 of X1 are ignored. -/
def Obligations.Srcover16Composites : Prop :=
  ∀ (c : Straps) (f : Fmt) (r : Request),
    let a := chan32 c f .a r.x0
    decode (0x5000 + 0x40 * f.code) = .ok (.srcover16 f) ∧ Rejected 0x50C0 ∧
    (chan32 c f .r r.x0 ≤ a ∧ chan32 c f .g r.x0 ≤ a ∧ chan32 c f .b r.x0 ≤ a →
      GivesInt (.srcover16 f) c r
        (overChannel (chan32 c f .r r.x0) (r.x1.extractLsb' 11 5).toNat a 5 * 2048
          + overChannel (chan32 c f .g r.x0) (r.x1.extractLsb' 5 6).toNat a 6 * 32
          + overChannel (chan32 c f .b r.x0) (r.x1.extractLsb' 0 5).toNat a 5)) ∧
    (chan32 c f .r r.x0 > a ∨ chan32 c f .g r.x0 > a ∨ chan32 c f .b r.x0 > a →
      GivesViolation (.srcover16 f) c r)

/-- R190. -/
def Obligations.LumWeighsTheChannels : Prop :=
  ∀ (c : Straps) (r : Request),
    decode 0x5400 = .ok .lum ∧
    (r.x0.toNat ≤ 255 ∧ r.x1.toNat ≤ 255 ∧ r.x2.toNat ≤ 255 →
      GivesInt .lum c r ((54 * r.x0.toNat + 183 * r.x1.toNat + 19 * r.x2.toNat) / 256)) ∧
    (r.x0.toNat > 255 ∨ r.x1.toNat > 255 ∨ r.x2.toNat > 255 → GivesViolation .lum c r)

/-- R172. -/
def Obligations.ByteBlendStaysBetweenItsOperands : Prop :=
  ∀ (c : Straps) (s d k : Nat), s ≤ 255 → d ≤ 255 → k ≤ 256 →
    ∃ v, intResult c .blend8 s d k 0 = some v ∧ min s d ≤ v ∧ v ≤ max s d ∧
      (k = 0 → v = d) ∧ (k = 256 → v = s) ∧
      (∀ s', s ≤ s' → s' ≤ 255 → ∃ v', intResult c .blend8 s' d k 0 = some v' ∧ v ≤ v') ∧
      (∀ d', d ≤ d' → d' ≤ 255 → ∃ v', intResult c .blend8 s d' k 0 = some v' ∧ v ≤ v')

/-- R177: the three datapaths give the same word, so BLEND_PATH shows in no response. -/
def Obligations.EveryBlendPathGivesTheSameWord : Prop :=
  (∀ (c : Straps) (s d : Word) (k : Nat), k ≤ 256 →
    (interpRef (biasOf c) s d k).toNat = mix32 c s d k ∧
    interpSplay32 (biasOf c) s d k = interpRef (biasOf c) s d k ∧
    interpSplay64 (biasOf c) s d k = interpRef (biasOf c) s d k) ∧
  ∀ (c : Straps) (b b' : BlendPath) (i : Instr) (r : Request),
    result { c with blendPath := b } i r = result { c with blendPath := b' } i r

/-- R180: every 16-bit lane of a splay word holds its own sum, at most 65408, so below 65536. -/
def Obligations.SplayLanesNeverCollide : Prop :=
  ∀ (bias k : Nat) (s d : Word), bias ≤ 128 → k ≤ 256 →
    let sum := fun i => byte32 s i * k + byte32 d i * (256 - k) + bias
    let lo := splayLanes32 bias (s &&& 0x00FF00FF) (d &&& 0x00FF00FF) k
    let hi := splayLanes32 bias ((s >>> 8) &&& 0x00FF00FF) ((d >>> 8) &&& 0x00FF00FF) k
    let acc := splayLanes64 bias (splay64 s) (splay64 d) k
    sum 0 ≤ 65408 ∧ sum 1 ≤ 65408 ∧ sum 2 ≤ 65408 ∧ sum 3 ≤ 65408 ∧
    lo.toNat = sum 0 + sum 2 * 2 ^ 16 ∧ hi.toNat = sum 1 + sum 3 * 2 ^ 16 ∧
    acc.toNat = sum 0 + sum 2 * 2 ^ 16 + sum 1 * 2 ^ 32 + sum 3 * 2 ^ 48

/-- R182. -/
def Obligations.InterpolationEndpointsAreExact : Prop :=
  ∀ (c : Straps) (s d : Nat), s < 2 ^ 32 → d < 2 ^ 32 →
    intResult c .interp256 s d 0 0 = some d ∧ intResult c .interp256 s d 256 0 = some s ∧
    intResult c .interp255 s d 0 0 = some d ∧ intResult c .interp255 s d 255 0 = some s

/-- R183. -/
def Obligations.InterpolationKeepsPremultiplication : Prop :=
  let premultiplied := fun p : Word =>
    byte32 p 0 ≤ byte32 p 3 ∧ byte32 p 1 ≤ byte32 p 3 ∧ byte32 p 2 ≤ byte32 p 3
  ∀ (c : Straps) (s d : Word) (k : Nat), premultiplied s → premultiplied d → k ≤ 256 →
    ∃ y, intResult c .interp256 s.toNat d.toNat k 0 = some y ∧ premultiplied (BitVec.ofNat 32 y)

/-- R188. -/
def Obligations.Srcover16Laws : Prop :=
  (∀ v a d : Nat, v ≤ a → a ≤ 255 →
    (d ≤ 31 → srcoverChannel v d (255 - a) 5 ≤ 31) ∧ (d ≤ 63 → srcoverChannel v d (255 - a) 6 ≤ 63)) ∧
  (∀ (c : Straps) (f : Fmt) (d : Nat), d < 2 ^ 32 →
    intResult c (.srcover16 f) 0 d 0 0 = some (d % 65536)) ∧
  (∀ (c : Straps) (f : Fmt) (p : Word) (d : Nat), chan32 c f .a p = 255 →
    intResult c (.srcover16 f) p.toNat d 0 0 =
      some (chan32 c f .r p / 8 * 2048 + chan32 c f .g p / 4 * 32 + chan32 c f .b p / 8))

/-- R191. -/
def Obligations.LumLaws : Prop :=
  ∀ (c : Straps) (r g b : Nat), r ≤ 255 → g ≤ 255 → b ≤ 255 →
    ∃ v, intResult c .lum r g b 0 = some v ∧ v ≤ 255 ∧ (r = g → g = b → v = r) ∧
      ∀ r' g' b', r ≤ r' → g ≤ g' → b ≤ b' → r' ≤ 255 → g' ≤ 255 → b' ≤ 255 →
        ∃ v', intResult c .lum r' g' b' 0 = some v' ∧ v ≤ v'

/-! ## The float path -/

/-- R221, the product: one correctly rounded operation, subnormals included; its sign is the product's. -/
def Obligations.FloatProductIsCorrectlyRounded : Prop :=
  ∀ a b : Word, FinitePattern a → FinitePattern b →
    NearestFloat (value a * value b) 149 (fmul32 a b) ∧
    (fmul32 a b).getLsbD 31 = (a.getLsbD 31 != b.getLsbD 31)

/-- R221, the sum and the difference: one correctly rounded operation each; an exact zero sum is −0 only when
both operands are negative. -/
def Obligations.FloatSumIsCorrectlyRounded : Prop :=
  ∀ a b : Word, FinitePattern a → FinitePattern b →
    NearestFloat (value a + value b) 0 (fadd32 a b) ∧
    NearestFloat (value a - value b) 0 (fsub32 a b) ∧
    (value a + value b = 0 →
      fadd32 a b = if a.getLsbD 31 = true ∧ b.getLsbD 31 = true then 0x80000000 else 0)

/-- R225. -/
def Obligations.Ffrom32ConvertsToFloats : Prop :=
  (∀ (c : Straps) (f : Fmt) (r : Request),
    decode (0x6000 + 0x40 * f.code) = .ok (.ffrom32 f) ∧ Rejected 0x60C0 ∧
    GivesFloat (.ffrom32 f) c r (lanes c fun ch => byteFloat (chan32 c f ch r.x0))) ∧
  byteFloat 0 = 0 ∧ byteFloat 255 = 0x3F800000 ∧
  ∀ n, n ≤ 255 → value (u8ToF32 n) = (n : Int) * 2 ^ 149 ∧ (byteFloat n).toNat ≤ 0x3F800000 ∧
    ∀ m, m ≤ n → value (byteFloat m) ≤ value (byteFloat n)

/-- R228, with the clamp of R226 and the rounding of R227. -/
def Obligations.Fto32ConvertsToBytes : Prop :=
  (∀ (c : Straps) (f : Fmt) (r : Request),
    decode (0x6400 + 0x40 * f.code) = .ok (.fto32 f) ∧ Rejected 0x64C0 ∧
    (EveryLane (fun x => ¬ NaNPattern x) r.f0 →
      ∃ b : Chan → Nat, (∀ ch, b ch ≤ 255 ∧ NearestByte c.floatTies (chanLane c r.f0 ch) (b ch)) ∧
        GivesInt (.fto32 f) c r (color32 c f (b .a) (b .r) (b .g) (b .b))) ∧
    (¬ EveryLane (fun x => ¬ NaNPattern x) r.f0 → GivesViolation (.fto32 f) c r)) ∧
  ∀ v : Word, ¬ NaNPattern v → value (clamp01 v) = max 0 (min (value v) (2 ^ 149))

/-- R230. -/
def Obligations.FlerpInterpolatesFloats : Prop :=
  ∀ (c : Straps) (r : Request),
    let u := fsub32 0x3F800000 r.ft
    decode 0x6800 = .ok .flerp ∧
    (InUnit r.ft ∧ EveryLane InUnit r.f0 ∧ EveryLane InUnit r.f1 →
      GivesFloat .flerp c r
        ⟨fadd32 (fmul32 r.f0.lane0 r.ft) (fmul32 r.f1.lane0 u),
         fadd32 (fmul32 r.f0.lane1 r.ft) (fmul32 r.f1.lane1 u),
         fadd32 (fmul32 r.f0.lane2 r.ft) (fmul32 r.f1.lane2 u),
         fadd32 (fmul32 r.f0.lane3 r.ft) (fmul32 r.f1.lane3 u)⟩) ∧
    (¬ (InUnit r.ft ∧ EveryLane InUnit r.f0 ∧ EveryLane InUnit r.f1) → GivesViolation .flerp c r)

/-- R231's pseudocode and `require`, and what they give for an opaque source and for a transparent one. The rule's
remark that a transparent source gives d exactly holds but for d = −0, where the sum (+0) + (−0) is +0 (log
entry 20). -/
def Obligations.FsrcoverComposites : Prop :=
  (∀ s d : Word, InUnit s → InUnit d →
    fadd32 s (fmul32 d (fsub32 0x3F800000 0x3F800000)) = endpoint d s ∧
    fadd32 0 (fmul32 d (fsub32 0x3F800000 0)) = if d = 0x80000000 then 0 else d) ∧
  ∀ (c : Straps) (r : Request),
    let u := fsub32 0x3F800000 (chanLane c r.f0 .a)
    decode 0x6C00 = .ok .fsrcover ∧
    (EveryLane InUnit r.f0 ∧ EveryLane InUnit r.f1 →
      GivesFloat .fsrcover c r
        ⟨fadd32 r.f0.lane0 (fmul32 r.f1.lane0 u), fadd32 r.f0.lane1 (fmul32 r.f1.lane1 u),
         fadd32 r.f0.lane2 (fmul32 r.f1.lane2 u), fadd32 r.f0.lane3 (fmul32 r.f1.lane3 u)⟩) ∧
    (¬ (EveryLane InUnit r.f0 ∧ EveryLane InUnit r.f1) → GivesViolation .fsrcover c r)

/-- R229: FLOAT_CLAMP_IMPL shows in no response. -/
def Obligations.ClampAndSaturateGiveTheSameByte : Prop :=
  ∀ (c : Straps) (x x' : FloatClampImpl) (i : Instr) (r : Request),
    result { c with floatClampImpl := x } i r = result { c with floatClampImpl := x' } i r

/-- R232. -/
def Obligations.ByteRoundTripThroughFloatsIsExact : Prop :=
  ∀ (c : Straps) (f : Fmt) (p : Word),
    ∃ v, floatResult c (.ffrom32 f) { Request.zero with x0 := p } = some v ∧
      result c (.fto32 f) { Request.zero with f0 := v } = some ⟨.ok, p, ⟨0, 0, 0, 0⟩⟩

/-- The example of R233: on bytes 187 and 11 with weight 8/256 the float path gives 16, the integer path 17. -/
def Obligations.FloatPathDiffersFromIntegerPath : Prop :=
  ∀ c : Straps, c.blendBias = .bias128 →
    fadd32 (fmul32 (byteFloat 187) 0x3D000000) (fmul32 (byteFloat 11) (fsub32 0x3F800000 0x3D000000))
      = 0x3D848484 ∧
    laneByte c 0x3D848484 = 16 ∧ intResult c .blend8 187 11 8 0 = some 17

/-- R235. -/
def Obligations.FlerpEndpointsAreExact : Prop :=
  ∀ (c : Straps) (s d : FVec), EveryLane InUnit s → EveryLane InUnit d →
    floatResult c .flerp { Request.zero with f0 := s, f1 := d, ft := 0 } =
      some ⟨endpoint s.lane0 d.lane0, endpoint s.lane1 d.lane1, endpoint s.lane2 d.lane2,
        endpoint s.lane3 d.lane3⟩ ∧
    floatResult c .flerp { Request.zero with f0 := s, f1 := d, ft := 0x3F800000 } =
      some ⟨endpoint d.lane0 s.lane0, endpoint d.lane1 s.lane1, endpoint d.lane2 s.lane2,
        endpoint d.lane3 s.lane3⟩ ∧
    laneByte c 0 = 0 ∧ laneByte c 0x80000000 = 0

/-! ## Host programs -/

/-- A 16-bit pixel widened to 32 bits and narrowed back is unchanged, through the pseudo-instructions of R96 run
on the unit. -/
def Obligations.PixelConversionsRoundTrip : Prop :=
  ∀ (c : Straps) (f : Fmt) (p : Word),
    (∃ q, programResult c (cvt565to32 f (.num p)) = some q ∧
      programResult c (cvt32to565 f (.num (BitVec.ofNat 32 q))) = some (p.toNat % 65536)) ∧
    (∃ q, programResult c (cvt4444to32 f (.num p)) = some q ∧
      programResult c (cvt32to4444 f (.num (BitVec.ofNat 32 q))) = some (p.toNat % 65536))
end

