-- ==== Sys2Proof/Laws/Decode.lean ====
section
/-! SUPPORT. The opcode map is unambiguous. -/

namespace Sys2Proof

/-- No two rows have the same OP. -/
theorem rows_op_distinct : (rows.map Row.op).Nodup := by decide

/-- No word meets the mask and match of two rows: two rows differ on a bit both fix. -/
theorem rows_disjoint :
    rows.Pairwise (fun a b => a.pattern &&& b.mask ≠ b.pattern &&& a.mask) := by decide

/-- Every row fixes its OP and the reserved bits. -/
theorem rows_fix_op_and_rsv :
    ∀ row ∈ rows, row.mask &&& 0xFC0F = 0xFC0F ∧ opField row.pattern = row.op ∧
      rsvField row.pattern = 0 := by decide

/-- A word is what its five fields say, and nothing else (R81). -/
theorem word_of_fields (w : CmdWord) :
    w = (opField w).setWidth 16 <<< 10 ||| (chField w).setWidth 16 <<< 8
      ||| (fmtField w).setWidth 16 <<< 6 ||| (wField w).setWidth 16 <<< 4
      ||| (rsvField w).setWidth 16 := by
  apply BitVec.eq_of_getLsbD_eq
  intro i hi
  simp only [opField, chField, fmtField, wField, rsvField]
  interval_cases i <;> simp

end Sys2Proof
end

