-- ==== Sys2Proof/Laws/Operands.lean ====
section
/-! SUPPORT. Small lemmas of the operand forms. -/

namespace Sys2Proof.Machine

theorem field_lt (v lo width : Nat) : field v lo width < 2 ^ width :=
  Nat.mod_lt _ (Nat.two_pow_pos _)

theorem get32_le (c : Straps) (p : Word) (f : Fmt) (ch : Chan) : get32 c p f ch ≤ 255 :=
  Nat.le_of_lt_succ (field_lt _ _ 8)

/-- A field by division. -/
theorem field_eq (v lo width : Nat) : field v lo width = v / 2 ^ lo % 2 ^ width := by
  simp [field, Nat.shiftRight_eq_div_pow]

theorem toBus_toNat {v : Nat} (h : v < 2 ^ 32) : (toBus v).toNat = v := by
  rw [toBus, BitVec.toNat_ofNat, Nat.mod_eq_of_lt h]

@[simp] theorem laneOf_chanOf (l : FloatLanes) (j : Fin 4) : laneOf l (chanOf l j) = j := by
  revert j; cases l <;> decide

@[simp] theorem chanOf_laneOf (l : FloatLanes) (c : Chan) : chanOf l (laneOf l c) = c := by
  cases l <;> cases c <;> rfl

@[simp] theorem laneAt_fvecOf (g : Fin 4 → Word) (j : Fin 4) : laneAt (fvecOf g) j = g j := by
  fin_cases j <;> rfl

end Sys2Proof.Machine
end

