-- ==== Sys2Proof/Laws/State.lean ====
section
/-! SUPPORT. One lemma per field per named update of the state, each true by `rfl`. -/

namespace Sys2Proof.Machine

@[simp] theorem State.accept_straps (s : State) (r : Request) : (s.accept r).straps = s.straps := rfl
@[simp] theorem State.accept_inFlight (s : State) (r : Request) : (s.accept r).inFlight = s.inFlight ++ [r] := rfl
@[simp] theorem State.accept_presented (s : State) (r : Request) : (s.accept r).presented = s.presented := rfl
@[simp] theorem State.accept_moves (s : State) (r : Request) : (s.accept r).moves = s.moves := rfl
@[simp] theorem State.accept_taken (s : State) (r : Request) : (s.accept r).taken = s.taken := rfl
@[simp] theorem State.accept_fault (s : State) (r : Request) : (s.accept r).fault = s.fault := rfl
@[simp] theorem State.accept_discarded (s : State) (r : Request) : (s.accept r).discarded = s.discarded := rfl
@[simp] theorem State.accept_draws (s : State) (r : Request) : (s.accept r).draws = s.draws := rfl

@[simp] theorem State.take_straps (s : State) : (s.take).straps = s.straps := rfl
@[simp] theorem State.take_inFlight (s : State) : (s.take).inFlight = s.inFlight := rfl
@[simp] theorem State.take_presented (s : State) : (s.take).presented = none := rfl
@[simp] theorem State.take_moves (s : State) : (s.take).moves = s.moves := rfl
@[simp] theorem State.take_taken (s : State) : (s.take).taken = s.taken ++ s.presented.toList := rfl
@[simp] theorem State.take_fault (s : State) : (s.take).fault = s.fault := rfl
@[simp] theorem State.take_discarded (s : State) : (s.take).discarded = s.discarded := rfl
@[simp] theorem State.take_draws (s : State) : (s.take).draws = s.draws := rfl

@[simp] theorem State.assertReset_straps (s : State) : (s.assertReset).straps = s.straps := rfl
@[simp] theorem State.assertReset_inFlight (s : State) : (s.assertReset).inFlight = [] := rfl
@[simp] theorem State.assertReset_presented (s : State) : (s.assertReset).presented = none := rfl
@[simp] theorem State.assertReset_moves (s : State) : (s.assertReset).moves = s.moves := rfl
@[simp] theorem State.assertReset_taken (s : State) : (s.assertReset).taken = s.taken := rfl
@[simp] theorem State.assertReset_fault (s : State) : (s.assertReset).fault = s.fault := rfl
@[simp] theorem State.assertReset_discarded (s : State) : (s.assertReset).discarded = s.discarded + s.inFlight.length + s.presented.toList.length := rfl
@[simp] theorem State.assertReset_draws (s : State) : (s.assertReset).draws = s.draws := rfl

@[simp] theorem State.give_straps (s : State) (q : List Request) (a : Answer) : (s.give q a).straps = s.straps := rfl
@[simp] theorem State.give_inFlight (s : State) (q : List Request) (a : Answer) : (s.give q a).inFlight = q := rfl
@[simp] theorem State.give_presented (s : State) (q : List Request) (a : Answer) : (s.give q a).presented = some (a.response s.straps s.draws) := rfl
@[simp] theorem State.give_moves (s : State) (q : List Request) (a : Answer) : (s.give q a).moves = s.moves := rfl
@[simp] theorem State.give_taken (s : State) (q : List Request) (a : Answer) : (s.give q a).taken = s.taken := rfl
@[simp] theorem State.give_fault (s : State) (q : List Request) (a : Answer) : (s.give q a).fault = a.faultAfter s.fault := rfl
@[simp] theorem State.give_discarded (s : State) (q : List Request) (a : Answer) : (s.give q a).discarded = s.discarded := rfl
@[simp] theorem State.give_draws (s : State) (q : List Request) (a : Answer) : (s.give q a).draws = a.drawsAfter s.draws := rfl

@[simp] theorem State.withMoves_straps (s : State) (ms : List Move) : (s.withMoves ms).straps = s.straps := rfl
@[simp] theorem State.withMoves_inFlight (s : State) (ms : List Move) : (s.withMoves ms).inFlight = s.inFlight := rfl
@[simp] theorem State.withMoves_presented (s : State) (ms : List Move) : (s.withMoves ms).presented = s.presented := rfl
@[simp] theorem State.withMoves_moves (s : State) (ms : List Move) : (s.withMoves ms).moves = ms := rfl
@[simp] theorem State.withMoves_taken (s : State) (ms : List Move) : (s.withMoves ms).taken = s.taken := rfl
@[simp] theorem State.withMoves_fault (s : State) (ms : List Move) : (s.withMoves ms).fault = s.fault := rfl
@[simp] theorem State.withMoves_discarded (s : State) (ms : List Move) : (s.withMoves ms).discarded = s.discarded := rfl
@[simp] theorem State.withMoves_draws (s : State) (ms : List Move) : (s.withMoves ms).draws = s.draws := rfl

@[simp] theorem State.resetWith_straps (c : Straps) : (State.resetWith c).straps = c := rfl
@[simp] theorem State.resetWith_inFlight (c : Straps) : (State.resetWith c).inFlight = [] := rfl
@[simp] theorem State.resetWith_presented (c : Straps) : (State.resetWith c).presented = none := rfl
@[simp] theorem State.resetWith_moves (c : Straps) : (State.resetWith c).moves = [] := rfl
@[simp] theorem State.resetWith_taken (c : Straps) : (State.resetWith c).taken = [] := rfl
@[simp] theorem State.resetWith_fault (c : Straps) : (State.resetWith c).fault = none := rfl
@[simp] theorem State.resetWith_discarded (c : Straps) : (State.resetWith c).discarded = 0 := rfl
@[simp] theorem State.resetWith_draws (c : Straps) : (State.resetWith c).draws = 0 := rfl

end Sys2Proof.Machine
end

