-- ==== Sys2Proof/Laws/Ops.lean ====
section
/-! SUPPORT. What the shared operations of Machine/Ops.lean can do, each said once. -/

namespace Sys2Proof.Machine

@[simp] theorem require_true (a : Answer) : require true a = a := rfl

@[simp] theorem require_false (a : Answer) : require false a = .violation := rfl

@[simp] theorem response_integer (y : Word) (c : Straps) (n : Nat) :
    (Answer.integer y).response c n = ⟨.ok, y, .zero⟩ := rfl

@[simp] theorem response_float (fy : FVec) (c : Straps) (n : Nat) :
    (Answer.float fy).response c n = ⟨.ok, 0, fy⟩ := rfl

@[simp] theorem response_illegal (c : Straps) (n : Nat) :
    Answer.illegal.response c n = ⟨.illegal, 0, .zero⟩ := rfl

@[simp] theorem response_violation (c : Straps) (n : Nat) :
    Answer.violation.response c n
      = ⟨violationStatus c.checkMode, Config.freeY n, Config.freeFY n⟩ := rfl

/-- No answer clears a fault record. -/
theorem faultAfter_eq_none {a : Answer} {f : Option Fault} (h : a.faultAfter f = none) :
    f = none ∧ a ≠ .violation := by
  cases a <;> simp_all [Answer.faultAfter]

/-- An answer leaves no fault recorded exactly when none was and it is no violation. -/
theorem faultAfter_eq_none_iff (a : Answer) (f : Option Fault) :
    a.faultAfter f = none ↔ f = none ∧ a ≠ .violation := by
  cases a <;> simp [Answer.faultAfter]

/-- The STATUS of an answer does not depend on the free values. -/
theorem response_status_eq (a : Answer) (c : Straps) (n m : Nat) :
    (a.response c n).status = (a.response c m).status := by
  cases a <;> rfl

/-- An answer that is no violation does not depend on the free values. -/
theorem response_eq_of_not_violation {a : Answer} (h : a ≠ .violation) (c : Straps) (n m : Nat) :
    a.response c n = a.response c m := by
  cases a <;> simp_all

/-- An operation answers the oldest request in flight when the response buses are free. -/
theorem answer_of_ready {rule : Straps → Request → Answer} {s : State} {r : Request} {q : List Request}
    (hp : s.presented = none) (hf : s.inFlight = r :: q) :
    answer rule s = .next (s.give q (rule s.straps r)) := by
  simp [answer, hp, hf]

/-- With no request in flight there is nothing to answer. -/
theorem answer_of_idle {rule : Straps → Request → Answer} {s : State} (hf : s.inFlight = []) :
    answer rule s = .next s := by
  unfold answer
  rw [hf]
  cases s.presented <;> rfl

/-- While a response waits to be taken, the answer waits. -/
theorem answer_of_busy {rule : Straps → Request → Answer} {s : State} {p : Response}
    (hp : s.presented = some p) : answer rule s = .next s := by
  simp [answer, hp]

/-- Everything an operation can do: answer the oldest request in flight, or leave the state as it is. -/
theorem answer_cases (rule : Straps → Request → Answer) (s : State) :
    (∃ r q, s.presented = none ∧ s.inFlight = r :: q ∧
      answer rule s = .next (s.give q (rule s.straps r))) ∨
    ((s.inFlight = [] ∨ ∃ p, s.presented = some p) ∧ answer rule s = .next s) := by
  cases hp : s.presented with
  | some p => exact .inr ⟨.inr ⟨p, rfl⟩, answer_of_busy hp⟩
  | none =>
    cases hf : s.inFlight with
    | nil => exact .inr ⟨.inl rfl, answer_of_idle hf⟩
    | cons r q => exact .inl ⟨r, q, rfl, rfl, answer_of_ready hp hf⟩

end Sys2Proof.Machine
end

