-- ==== Sys2Proof/Laws/PerInstr.lean ====
section
/-! SUPPORT. The per-instruction law RowMatch: the word of a command agrees with its row's match under its
row's mask (30_encoding.md R87). -/

namespace Sys2Proof.Laws.RowMatch

/-- Some row of the opcode map has the command word's OP, and the word agrees with the row's match under the
row's mask. -/
def Statement (i : Instr) : Prop :=
  ∃ row ∈ rows, row.op = opField (encode i) ∧ encode i &&& row.mask = row.pattern

theorem ext32 (f : Fmt) (c : Chan) : Statement (.ext32 f c) := by
  cases f <;> cases c <;> (unfold Statement; decide)

theorem pack32 (f : Fmt) : Statement (.pack32 f) := by
  cases f <;> (unfold Statement; decide)

theorem swaprb : Statement .swaprb := by unfold Statement; decide

theorem ext565 (c : Chan) : Statement (.ext565 c) := by
  cases c <;> (unfold Statement; decide)

theorem pack565 : Statement .pack565 := by unfold Statement; decide

theorem ext4444 (c : Chan) : Statement (.ext4444 c) := by
  cases c <;> (unfold Statement; decide)

theorem pack4444 : Statement .pack4444 := by unfold Statement; decide

theorem widen (w : Width) : Statement (.widen w) := by
  cases w <;> (unfold Statement; decide)

theorem narrow (w : Width) : Statement (.narrow w) := by
  cases w <;> (unfold Statement; decide)

theorem blend8 : Statement .blend8 := by unfold Statement; decide

theorem scale255 : Statement .scale255 := by unfold Statement; decide

theorem interp256 : Statement .interp256 := by unfold Statement; decide

theorem interp255 : Statement .interp255 := by unfold Statement; decide

theorem srcover16 (f : Fmt) : Statement (.srcover16 f) := by
  cases f <;> (unfold Statement; decide)

theorem lum : Statement .lum := by unfold Statement; decide

theorem ffrom32 (f : Fmt) : Statement (.ffrom32 f) := by
  cases f <;> (unfold Statement; decide)

theorem fto32 (f : Fmt) : Statement (.fto32 f) := by
  cases f <;> (unfold Statement; decide)

theorem flerp : Statement .flerp := by unfold Statement; decide

theorem fsrcover : Statement .fsrcover := by unfold Statement; decide

end Sys2Proof.Laws.RowMatch
end

