-- ==== Sys2Proof/Laws/Step.lean ====
section
/-! SUPPORT. What `exec`, `answerOldest` and `step` can do, each said once. -/

namespace Sys2Proof.Machine

/-- Every meaning is the answering of the oldest request by one rule. -/
theorem exec_is_answer (i : Instr) : ∃ rule, ∀ s, exec i s = answer rule s := by
  cases i <;> exact ⟨_, fun _ => rfl⟩

/-- With no request in flight the unit is idle. -/
theorem answerOldest_of_idle {s : State} (hf : s.inFlight = []) : answerOldest s = .next s := by
  simp [answerOldest, hf]

/-- A request whose word decodes is executed. -/
theorem answerOldest_of_ok {s : State} {r : Request} {q : List Request} {i : Instr}
    (hf : s.inFlight = r :: q) (hd : decode r.cmd = .ok i) : answerOldest s = exec i s := by
  simp [answerOldest, hf, hd]

/-- A request whose word does not decode is answered ILLEGAL. -/
theorem answerOldest_of_error {s : State} {r : Request} {q : List Request} {e : IllegalWord}
    (hf : s.inFlight = r :: q) (hd : decode r.cmd = .error e) :
    answerOldest s = answer (fun _ _ => .illegal) s := by
  simp [answerOldest, hf, hd]

/-- Everything the unit's own move can do. -/
theorem answerOldest_cases (s : State) :
    (∃ r q a, s.presented = none ∧ s.inFlight = r :: q ∧ answerOldest s = .next (s.give q a)) ∨
    ((s.inFlight = [] ∨ ∃ p, s.presented = some p) ∧ answerOldest s = .next s) := by
  have key : ∀ rule, answerOldest s = answer rule s →
      (∃ r q a, s.presented = none ∧ s.inFlight = r :: q ∧ answerOldest s = .next (s.give q a)) ∨
      ((s.inFlight = [] ∨ ∃ p, s.presented = some p) ∧ answerOldest s = .next s) := by
    intro rule h
    rw [h]
    rcases answer_cases rule s with ⟨r, q, hp, hf, ha⟩ | ⟨hw, ha⟩
    · exact .inl ⟨r, q, _, hp, hf, ha⟩
    · exact .inr ⟨hw, ha⟩
  cases hf : s.inFlight with
  | nil => exact .inr ⟨.inl rfl, answerOldest_of_idle hf⟩
  | cons r q =>
    rw [← hf]
    cases hd : decode r.cmd with
    | error e => exact key _ (answerOldest_of_error hf hd)
    | ok i =>
      obtain ⟨rule, hr⟩ := exec_is_answer i
      exact key rule ((answerOldest_of_ok hf hd).trans (hr s))

@[simp] theorem perform_present (r : Request) (s : State) : perform (.present r) s = .next (s.accept r) := rfl

@[simp] theorem perform_answer (s : State) : perform .answer s = answerOldest s := rfl

@[simp] theorem perform_take (s : State) : perform .take s = .next s.take := rfl

@[simp] theorem perform_reset (s : State) : perform .reset s = .next s.assertReset := rfl

/-- With a move to come, a step performs it. -/
theorem step_of_move {s : State} {m : Move} {ms : List Move} (h : s.moves = m :: ms) :
    step s = perform m (s.withMoves ms) := by
  simp [step, h]

/-- With no move to come, a step is the unit's own move. -/
theorem step_of_no_move {s : State} (h : s.moves = []) : step s = answerOldest s := by
  simp [step, h]

end Sys2Proof.Machine
end

