-- ==== Sys2Proof/Laws/Safety.lean ====
section
/-! SUPPORT. What the terms of Safety.lean say of a request: one rule gives its answer in every state, alone or
not. -/

namespace Sys2Proof.Machine

@[simp] theorem requestsOf_nil : requestsOf [] = [] := rfl

@[simp] theorem requestsOf_present (r : Request) (ms : List Move) :
    requestsOf (.present r :: ms) = r :: requestsOf ms := rfl

@[simp] theorem requestsOf_answer (ms : List Move) : requestsOf (.answer :: ms) = requestsOf ms := rfl

@[simp] theorem requestsOf_take (ms : List Move) : requestsOf (.take :: ms) = requestsOf ms := rfl

@[simp] theorem requestsOf_reset (ms : List Move) : requestsOf (.reset :: ms) = requestsOf ms := rfl

@[simp] theorem lone_straps (c : Straps) (r : Request) : (lone c r).straps = c := rfl

@[simp] theorem lone_inFlight (c : Straps) (r : Request) : (lone c r).inFlight = [r] := rfl

@[simp] theorem lone_presented (c : Straps) (r : Request) : (lone c r).presented = none := rfl

@[simp] theorem lone_fault (c : Straps) (r : Request) : (lone c r).fault = none := rfl

@[simp] theorem lone_draws (c : Straps) (r : Request) : (lone c r).draws = 0 := rfl

/-- A request is answered by one rule, its command's or the ILLEGAL one, wherever it is the oldest in flight. -/
theorem answerOldest_by_rule (r : Request) : ∃ rule : Straps → Request → Answer,
    ∀ (s : State) (q : List Request), s.inFlight = r :: q → answerOldest s = answer rule s := by
  cases hd : decode r.cmd with
  | error e => exact ⟨_, fun s q hf => answerOldest_of_error hf hd⟩
  | ok i =>
    obtain ⟨rule, hr⟩ := exec_is_answer i
    exact ⟨rule, fun s q hf => (answerOldest_of_ok hf hd).trans (hr s)⟩

/-- The same rule gives the response to the request alone, and says whether it violates a precondition. -/
theorem request_rule (r : Request) : ∃ rule : Straps → Request → Answer,
    (∀ (s : State) (q : List Request), s.inFlight = r :: q → answerOldest s = answer rule s) ∧
    ∀ c, loneResponse c r = some ((rule c r).response c 0) ∧
      violates c r = decide (rule c r = .violation) := by
  obtain ⟨rule, h⟩ := answerOldest_by_rule r
  refine ⟨rule, h, fun c => ?_⟩
  have alone : answerOldest (lone c r) = .next ((lone c r).give [] (rule c r)) :=
    (h (lone c r) [] rfl).trans (answer_of_ready rfl rfl)
  unfold loneResponse violates
  rw [alone]
  refine ⟨rfl, ?_⟩
  cases hr : rule c r <;> simp [Answer.faultAfter]

end Sys2Proof.Machine
end

