-- ==== Sys2Proof/Tests/Slice0.lean ====
section
/-! SUPPORT. Tests. Expected values are those of spec/95_test_vectors.md (E: worked examples of the source, V:
vectors, P: programs), of the encoding tables of spec/30_encoding.md, or boundary values of a rule; none is the
model's own answer. The `witness_` theorems show states and operands that meet the hypotheses of the statements. -/

namespace Sys2Proof.Tests

open Sys2Proof.Machine Sys2Proof.Statements

/-! ## Helpers -/

/-- The spec's "defaults" (95_test_vectors.md). -/
def dflt : Straps := ⟨.argb, .ref, .argb, .tiesUp, .debug, .argb, .bias128, 1, .clamp⟩

/-- A request with integer operands. -/
def ints (cmd : CmdWord) (x0 x1 x2 x3 : Word) : Request := ⟨cmd, x0, x1, x2, x3, .zero, .zero, 0⟩

/-- A request with float operands. -/
def floats (cmd : CmdWord) (f0 f1 : FVec) (ft : Word) : Request := ⟨cmd, 0, 0, 0, 0, f0, f1, ft⟩

/-- One step of a unit that holds one request answers OK with this Y, FY all +0, and no fault. -/
def answersY (c : Straps) (r : Request) (y : Word) : Bool :=
  match step (lone c r) with
  | .next t => t.presented == some ⟨.ok, y, ⟨0, 0, 0, 0⟩⟩ && t.fault == none && t.inFlight == []
  | .fault _ => false
  | .refused _ => false

/-- The same with this FY, and Y = 0. -/
def answersFY (c : Straps) (r : Request) (fy : FVec) : Bool :=
  match step (lone c r) with
  | .next t => t.presented == some ⟨.ok, 0, fy⟩ && t.fault == none && t.inFlight == []
  | .fault _ => false
  | .refused _ => false

/-- One step answers with this STATUS and records the violation. -/
def answersViolation (c : Straps) (r : Request) (status : Status) : Bool :=
  match step (lone c r) with
  | .next t => t.presented.map (fun p => p.status) == some status
      && t.fault == some .preconditionViolated && t.inFlight == []
  | .fault _ => false
  | .refused _ => false

/-- One step answers ILLEGAL with zeros and records nothing. -/
def answersIllegal (c : Straps) (r : Request) : Bool :=
  match step (lone c r) with
  | .next t => t.presented == some ⟨.illegal, 0, ⟨0, 0, 0, 0⟩⟩ && t.fault == none && t.inFlight == []
  | .fault _ => false
  | .refused _ => false

/-! ## Well-formed commands: the one ill-formed command is refused (R88) -/

theorem test_wf_ext565_alpha_refused : Instr.wf (.ext565 .a) = false := by decide

theorem test_wf_ext565_red_accepted : Instr.wf (.ext565 .r) = true := by decide

/-! ## Decoding: words written out field by field, OP CH FMT W RSV (30_encoding.md R81 to R85) -/

theorem test_decode_ext32 : decode 0b000001_11_10_00_0000 = .ok (.ext32 .abgr .b) := by decide

theorem test_decode_pack32 : decode 0b000010_00_01_00_0000 = .ok (.pack32 .argb) := by decide

theorem test_decode_swaprb : decode 0b000011_00_00_00_0000 = .ok .swaprb := by decide

theorem test_decode_ext565 : decode 0b000100_10_00_00_0000 = .ok (.ext565 .g) := by decide

theorem test_decode_pack565 : decode 0b000101_00_00_00_0000 = .ok .pack565 := by decide

theorem test_decode_ext4444 : decode 0b000110_00_00_00_0000 = .ok (.ext4444 .a) := by decide

theorem test_decode_pack4444 : decode 0b000111_00_00_00_0000 = .ok .pack4444 := by decide

theorem test_decode_widen : decode 0b001000_00_00_01_0000 = .ok (.widen .w5) := by decide

theorem test_decode_narrow : decode 0b001001_00_00_10_0000 = .ok (.narrow .w6) := by decide

theorem test_decode_blend8 : decode 0b010000_00_00_00_0000 = .ok .blend8 := by decide

theorem test_decode_scale255 : decode 0b010001_00_00_00_0000 = .ok .scale255 := by decide

theorem test_decode_interp256 : decode 0b010010_00_00_00_0000 = .ok .interp256 := by decide

theorem test_decode_interp255 : decode 0b010011_00_00_00_0000 = .ok .interp255 := by decide

theorem test_decode_srcover16 : decode 0b010100_00_10_00_0000 = .ok (.srcover16 .abgr) := by decide

theorem test_decode_lum : decode 0b010101_00_00_00_0000 = .ok .lum := by decide

theorem test_decode_ffrom32 : decode 0b011000_00_01_00_0000 = .ok (.ffrom32 .argb) := by decide

theorem test_decode_fto32 : decode 0b011001_00_10_00_0000 = .ok (.fto32 .abgr) := by decide

theorem test_decode_flerp : decode 0b011010_00_00_00_0000 = .ok .flerp := by decide

theorem test_decode_fsrcover : decode 0b011011_00_00_00_0000 = .ok .fsrcover := by decide

/-- V1 to V9: every kind of illegal word. -/
theorem test_decode_illegal_words :
    [0x0000, 0x0401, 0x04C0, 0x1000, 0x2030, 0x0C40, 0x2800, 0xFC00, 0x0900].all
      (fun w => answersIllegal dflt (ints w 0 0 0 0)) = true := by decide

/-- The host's two entry points on one word (V10's word). -/
theorem test_fetch_word :
    decodeTableWord 16 0x0440 = some (.ext32 .argb .a) ∧ decodeTableWord 16 0x1000 = none ∧
    (match step (State.reset.withFetchWord 16 0x0440) with
      | .next t => t.presented == some ⟨.ok, 0, ⟨0, 0, 0, 0⟩⟩ && t.moves == []
      | .fault _ => false
      | .refused _ => false) = true := by decide

/-! ## One step per instruction -/

/-- V18, V19. -/
theorem test_ext32_pm :
    answersY dflt (ints 0x0500 0xC0804020 0 0 0) 0x80 = true ∧
    answersY { dflt with pmOrder := .abgr } (ints 0x0500 0xC0804020 0 0 0) 0x20 = true := by decide

/-- V21, V22. -/
theorem test_pack32 :
    answersY dflt (ints 0x0880 0xFF 0x12 0x34 0x56) 0xFF563412 = true ∧
    answersY { dflt with pmOrder := .abgr } (ints 0x0800 0x80 0x80 0 0x7F) 0x807F0080 = true := by decide

/-- V24. -/
theorem test_pack32_violation :
    answersViolation dflt (ints 0x0840 0xFF 0x100 0 0) .precond = true := by decide

/-- V26. -/
theorem test_swaprb : answersY dflt (ints 0x0C00 0xFF123456 0 0 0) 0xFF563412 = true := by decide

/-- V41, V42, V43: the high half is ignored. -/
theorem test_ext565 :
    answersY dflt (ints 0x1100 0xABCD1234 0 0 0) 0x2 = true ∧
    answersY dflt (ints 0x1200 0xABCD1234 0 0 0) 0x11 = true ∧
    answersY dflt (ints 0x1300 0xABCD1234 0 0 0) 0x14 = true := by decide

/-- V45: X0 is ignored. -/
theorem test_pack565 : answersY dflt (ints 0x1400 0xFFFF 0x10 0x20 0x1) 0x8401 = true := by decide

/-- V47, V170: the same violation in both check modes. -/
theorem test_pack565_violation :
    answersViolation dflt (ints 0x1400 0 0 0x40 0) .precond = true ∧
    answersViolation { dflt with checkMode := .release } (ints 0x1400 0 0x20 0 0) .ok = true := by decide

/-- V52, V57. -/
theorem test_ext4444 :
    answersY dflt (ints 0x1B00 0x1234 0 0 0) 0x4 = true ∧
    answersY { dflt with layout4444 := .rgba } (ints 0x1B00 0x1234 0 0 0) 0x3 = true := by decide

/-- V53, V58. -/
theorem test_pack4444 :
    answersY dflt (ints 0x1C00 0xF 0x1 0x2 0x3) 0xF123 = true ∧
    answersY { dflt with layout4444 := .rgba } (ints 0x1C00 0xF 0x1 0x2 0x3) 0x123F = true := by decide

/-- V60. -/
theorem test_pack4444_violation :
    answersViolation dflt (ints 0x1C00 0x10 0 0 0) .precond = true := by decide

/-- V68, V73. -/
theorem test_widen :
    answersY dflt (ints 0x2010 0x10 0 0 0) 0x84 = true ∧
    answersY dflt (ints 0x2020 0x20 0 0 0) 0x82 = true := by decide

/-- V65. -/
theorem test_widen_violation :
    answersViolation dflt (ints 0x2000 0x10 0 0 0) .precond = true := by decide

/-- V79, V91. -/
theorem test_narrow :
    answersY dflt (ints 0x2400 0xAB 0 0 0) 0xA = true ∧
    answersY dflt (ints 0x2420 0xAB 0 0 0) 0x2A = true := by decide

/-- V87. -/
theorem test_narrow_violation :
    answersViolation dflt (ints 0x2410 0x100 0 0 0) .precond = true := by decide

/-- V96, V97: both biases. -/
theorem test_blend8 :
    answersY dflt (ints 0x4000 0x1 0 0x80 0) 0x1 = true ∧
    answersY { dflt with blendBias := .bias0 } (ints 0x4000 0x1 0 0x80 0) 0x0 = true := by decide

/-- V106. -/
theorem test_blend8_violation :
    answersViolation dflt (ints 0x4000 0xA 0 0x101 0) .precond = true := by decide

/-- V111, V112. -/
theorem test_scale255 :
    answersY dflt (ints 0x4400 0x7F 0 0 0) 0x7F = true ∧
    answersY dflt (ints 0x4400 0x80 0 0 0) 0x81 = true := by decide

/-- V116. -/
theorem test_scale255_violation :
    answersViolation dflt (ints 0x4400 0x100 0 0 0) .precond = true := by decide

/-- V117, V125, V126: the three datapaths. -/
theorem test_interp256 :
    answersY dflt (ints 0x4800 0xFFFF0000 0xFF0000FF 0x80 0) 0xFF800080 = true ∧
    answersY { dflt with blendPath := .splay32 } (ints 0x4800 0x01010101 0 0x80 0) 0x01010101 = true ∧
    answersY { dflt with blendPath := .splay64 } (ints 0x4800 0x80402010 0xFFFFFFFF 0x40 0) 0xDFCFC7C3
      = true := by decide

/-- V127. -/
theorem test_interp256_violation :
    answersViolation dflt (ints 0x4800 0 0 0x101 0) .precond = true := by decide

/-- V130, V131: the step of the weight conversion. -/
theorem test_interp255 :
    answersY dflt (ints 0x4C00 0x12345678 0x9ABCDEF0 0x7F 0) 0x57799BB4 = true ∧
    answersY dflt (ints 0x4C00 0x12345678 0x9ABCDEF0 0x80 0) 0x557799B4 = true := by decide

/-- V132. -/
theorem test_interp255_violation :
    answersViolation dflt (ints 0x4C00 0 0 0x100 0) .precond = true := by decide

/-- V136, V137. -/
theorem test_srcover16 :
    answersY dflt (ints 0x5080 0x80000080 0x1F 0 0) 0x800F = true ∧
    answersY dflt (ints 0x5040 0x80404040 0xFFFF 0 0) 0xBDF7 = true := by decide

/-- V139. -/
theorem test_srcover16_violation :
    answersViolation dflt (ints 0x5040 0x00FF0000 0x1F 0 0) .precond = true := by decide

/-- V141, V142, V143. -/
theorem test_lum :
    answersY dflt (ints 0x5400 0xFF 0 0 0) 0x35 = true ∧
    answersY dflt (ints 0x5400 0 0xFF 0 0) 0xB6 = true ∧
    answersY dflt (ints 0x5400 0 0 0xFF 0) 0x12 = true := by decide

/-- V146. -/
theorem test_lum_violation :
    answersViolation dflt (ints 0x5400 0x100 0 0 0) .precond = true := by decide

/-- V148, V149. -/
theorem test_ffrom32 :
    answersFY { dflt with floatLanes := .rgba } (ints 0x6040 0xFF800000 0 0 0)
      ⟨0x3F008081, 0, 0, 0x3F800000⟩ = true ∧
    answersFY dflt (ints 0x6080 0xFF800000 0 0 0) ⟨0x3F800000, 0, 0, 0x3F008081⟩ = true := by
  decide +kernel

/-- V152, V154, V155: clamping, and both tie modes. -/
theorem test_fto32 :
    answersY dflt (floats 0x6440 ⟨0x3FC00000, 0xBE800000, 0x7F800000, 0xFF800000⟩ .zero 0) 0xFF00FF00
      = true ∧
    answersY dflt (floats 0x6440 ⟨0x3F800000, 0x3B008081, 0x3C20A0A1, 0⟩ .zero 0) 0xFF010300 = true ∧
    answersY { dflt with floatTies := .tiesEven }
      (floats 0x6440 ⟨0x3F800000, 0x3B008081, 0x3C20A0A1, 0⟩ .zero 0) 0xFF000200 = true := by
  decide +kernel

/-- V157. -/
theorem test_fto32_violation :
    answersViolation dflt (floats 0x6440 ⟨0x3F800000, 0x7FC00000, 0, 0⟩ .zero 0) .precond = true := by
  decide

/-- V161, V174. -/
theorem test_flerp :
    answersFY dflt (floats 0x6800 ⟨0x3F800000, 0x3F800000, 0, 0⟩ ⟨0x3F800000, 0, 0, 0x3F800000⟩ 0x3E800000)
      ⟨0x3F800000, 0x3E800000, 0, 0x3F400000⟩ = true ∧
    answersFY dflt
      (floats 0x6800 ⟨0x3F800000, 0x3F3BBBBC, 0, 0⟩ ⟨0x3F800000, 0x3D30B0B1, 0, 0⟩ 0x3D000000)
      ⟨0x3F800000, 0x3D848484, 0, 0⟩ = true := by
  decide +kernel

/-- V163, V164. -/
theorem test_flerp_violation :
    answersViolation dflt
      (floats 0x6800 ⟨0x3F800000, 0x3F800000, 0, 0⟩ ⟨0x3F800000, 0, 0, 0x3F800000⟩ 0x3FC00000) .precond
      = true ∧
    answersViolation dflt
      (floats 0x6800 ⟨0x3F800000, 0x40000000, 0, 0⟩ ⟨0x3F800000, 0, 0, 0x3F800000⟩ 0x3F000000) .precond
      = true := by
  decide

/-- V167, V168: alpha in lane 0 and in lane 3. -/
theorem test_fsrcover :
    answersFY dflt (floats 0x6C00 ⟨0x3F000000, 0x3F000000, 0, 0⟩ ⟨0x3F800000, 0, 0, 0x3F800000⟩ 0)
      ⟨0x3F800000, 0x3F000000, 0, 0x3F000000⟩ = true ∧
    answersFY { dflt with floatLanes := .rgba }
      (floats 0x6C00 ⟨0x3F000000, 0, 0, 0x3F000000⟩ ⟨0, 0, 0x3F800000, 0x3F800000⟩ 0)
      ⟨0x3F000000, 0, 0x3F000000, 0x3F800000⟩ = true := by
  decide +kernel

/-- V169. -/
theorem test_fsrcover_violation :
    answersViolation dflt (floats 0x6C00 ⟨0x7FC00000, 0, 0, 0⟩ ⟨0x3F800000, 0, 0, 0x3F800000⟩ 0) .precond
      = true := by
  decide

/-! ## Host programs -/

/-- Assembler names and words (R95). -/
theorem test_assemble :
    assemble "ext32.pm.r" = some 0x0500 ∧ assemble "widen.5" = some 0x2010 ∧
    assemble "srcover16.argb" = some 0x5040 ∧ assemble "ext565.a" = none := by decide

/-- The examples of R95, and text that is no line. -/
theorem test_assembleLine :
    assembleLine "ext32.pm.r 0xFF8040C0" = some { instr := .ext32 .pm .r, x0 := .num 0xFF8040C0 } ∧
    assembleLine "t6 <- pack565 X0=0, X1=t3, X2=t4, X3=t5" = some
      { dest := "t6", instr := .pack565, x0 := .num 0, x1 := .temp "t3", x2 := .temp "t4", x3 := .temp "t5" } ∧
    assembleLine "fto32.argb [0, 1, 0x3F800000, 0]" = some
      { instr := .fto32 .argb, f0 := .vec ⟨0, 1, 0x3F800000, 0⟩ } ∧
    assembleLine "widen.7 0x1F" = none ∧ assembleLine "lum X0=1," = none := by decide

/-- P2, steps 0 to 2, as text: the last line's Y. -/
theorem test_assembleProgram :
    (assembleProgram ["t0 <- srcover16.pm X0=0x80400000, X1=0x8218", "t1 <- ext565.r X0=t0",
      "t2 <- ext565.g X0=t0"]).bind (programResult dflt) = some 0x8 := by decide

/-- P1: 0xFF8040C0 is the RGB565 pixel 0x8218. -/
theorem test_cvt32to565 : programResult dflt (cvt32to565 .pm (.num 0xFF8040C0)) = some 0x8218 := by
  decide

/-- P6, the fourth pixel. -/
theorem test_cvt565to32 : programResult dflt (cvt565to32 .pm (.num 0x8410)) = some 0xFF848284 := by
  decide

/-- P4, steps 0 to 3. -/
theorem test_fblend : programResult dflt (fblend .pm (.num 0xFFFF0000) (.num 0x8000007F) (.num 0x3E800000)) = some 0xA040005F := by
  decide +kernel

/-! ## Witnesses: the hypotheses of the statements are met -/

/-- A request that violates no precondition. -/
def good : Request := ints 0x1400 0 31 63 31

/-- A request that violates one (V46). -/
def bad : Request := ints 0x1400 0 32 0 0

/-- A request whose word is illegal (V5). -/
def illegalWord : Request := ints 0x2030 0 0 0 0

/-- A response a violation may have given. -/
def violated : Response := ⟨.precond, 7, ⟨1, 2, 3, 4⟩⟩

/-- A unit in the middle of a run: a violation was answered and taken, two requests are in flight. -/
def midRun : State :=
  { State.resetWith dflt with
    inFlight := [good, bad], moves := [.answer, .take], taken := [violated]
    fault := some .preconditionViolated }

theorem rejected_2030 : Rejected 0x2030 := ⟨.reservedWidth, by decide⟩

theorem not_rejected_1400 : ¬ Rejected 0x1400 := by
  rintro ⟨e, h⟩
  exact absurd (h.symm.trans (by decide : decode 0x1400 = .ok .pack565)) (by simp)

theorem witness_DecodeAndEncodeAgree :
    decode 0x0780 = .ok (.ext32 .abgr .b) ∧ Instr.wf (.ext32 .abgr .b) = true ∧
    encode (.ext32 .abgr .b) = 0x0780 := by decide

theorem witness_FortySevenWordsAreLegal :
    Instr.wf (.ext565 .b) = true ∧ decode 0x1300 = .ok (.ext565 .b) := by decide

theorem witness_ReservedEncodingsAreIllegal :
    (0x0401 : CmdWord).extractLsb' 0 4 ≠ 0 ∧
    ((0x04C0 : CmdWord).extractLsb' 10 6).toNat = 0x01 ∧ (0x04C0 : CmdWord).extractLsb' 6 2 = 3 ∧
    ((0x2030 : CmdWord).extractLsb' 10 6).toNat = 0x08 ∧ (0x2030 : CmdWord).extractLsb' 4 2 = 3 ∧
    ((0x1000 : CmdWord).extractLsb' 10 6).toNat = 0x04 ∧ (0x1000 : CmdWord).extractLsb' 8 2 = 0 ∧
    ((0x2800 : CmdWord).extractLsb' 10 6).toNat = 0x0A := by decide

theorem witness_LegalWordsMatchTheirRow : decode 0x0440 = .ok (.ext32 .argb .a) := by decide

theorem witness_StepRunsTheDecodedCommand :
    (lone dflt good).inFlight = [good] ∧ decode good.cmd = .ok .pack565 ∧ (lone dflt good).moves = [] ∧
    midRun.inFlight = [good, bad] ∧ midRun.moves = .answer :: [.take] ∧
    decode (BitVec.ofNat 16 (0x0440 % 2 ^ 16)) = .ok (.ext32 .argb .a) := by decide

theorem witness_IllegalWordIsAnswered :
    (lone dflt illegalWord).presented = none ∧ (lone dflt illegalWord).inFlight = [illegalWord] ∧
    Rejected illegalWord.cmd ∧ (lone dflt illegalWord).moves = [] ∧
    ({ lone dflt illegalWord with moves := [.answer] } : State).moves = .answer :: [] :=
  ⟨rfl, rfl, rejected_2030, rfl, rfl⟩

theorem witness_OneOutcomeInPriorityOrder :
    ((lone dflt good).presented = none ∧ (lone dflt good).moves = []) ∧
    (midRun.presented = none ∧ midRun.moves.head? = some .answer) ∧
    Rejected illegalWord.cmd ∧
    (¬ Rejected bad.cmd ∧ violates dflt bad = true ∧
      violates { dflt with checkMode := .release } bad = true) ∧
    (¬ Rejected good.cmd ∧ violates dflt good = false) :=
  ⟨⟨rfl, rfl⟩, ⟨rfl, rfl⟩, rejected_2030, ⟨not_rejected_1400, by decide, by decide⟩, not_rejected_1400,
    by decide⟩

theorem witness_ResetDiscardsWhatIsInFlight :
    ({ midRun with moves := [.reset, .present good, .answer] } : State).moves
      = .reset :: .present good :: .answer :: [] ∧
    violates midRun.straps good = false := by decide

theorem witness_AcceptingAndTakingKeepOrder :
    ({ midRun with moves := [.present good] } : State).moves = .present good :: [] ∧
    ({ midRun with moves := [.take], presented := some violated } : State).presented = some violated ∧
    ({ midRun with moves := [.take] } : State).moves = .take :: [] ∧ midRun.presented = none := by decide

theorem witness_EveryStepKeepsTheOutcome :
    (∃ t, step midRun = .next t) ∧ midRun.moves.head? ≠ some .reset ∧
    (∀ r ∈ midRun.inFlight.head?, violates midRun.straps r = false) ∧
    (∃ t, step { midRun with inFlight := [bad, good] } = .next t) ∧
    0 ≠ midRun.placeOfOldest ∧ 2 ≠ midRun.placeOfOldest :=
  ⟨⟨_, rfl⟩, by decide, by decide, ⟨_, rfl⟩, by decide, by decide⟩

theorem witness_StrapsNeverChange : ∃ t, step midRun = .next t := ⟨_, rfl⟩

theorem witness_FaultIsNeverCleared :
    (∃ t, step midRun = .next t) ∧ midRun.fault = some .preconditionViolated ∧
    (lone dflt bad).fault = none ∧
    ∃ t, step (lone dflt bad) = .next t ∧ t.fault ≠ none :=
  ⟨⟨_, rfl⟩, rfl, rfl, ⟨_, rfl, by decide⟩⟩

/-- A schedule that is not one by one, with a violation in it, and the run of it that ends. -/
theorem witness_EveryRunAnswersAllItsRequests :
    let ms : List Move := [.present good, .present bad, .answer, .take, .answer]
    Move.reset ∉ ms ∧ violates dflt good = false ∧ violates dflt bad = true ∧
    ∃ t : State, Host.Core.run core 5 ({ State.resetWith dflt with moves := ms } : State) = .next t ∧
      t.Ended :=
  ⟨by decide, by decide, by decide, _, rfl, rfl, rfl, rfl⟩

theorem witness_ResetStateIsReady : violates dflt good = false := by decide

theorem witness_IgnoredBusesHaveNoEffect :
    (lone dflt good).presented = none ∧
    SameReads .pack565 good { good with x0 := 0xFFFF, f0 := ⟨1, 2, 3, 4⟩ } ∧
    SameReads (.ext565 .r) (ints 0x1100 0xABCD1234 0 0 0) (ints 0x1100 0x1234 5 6 7) ∧
    result dflt .pack565 good ≠ none := by
  refine ⟨rfl, ⟨rfl, rfl, rfl⟩, ?_, by decide⟩
  show (0xABCD1234 : Word).extractLsb' 0 16 = (0x1234 : Word).extractLsb' 0 16
  decide

theorem witness_UnnamedResultBusesAreZero :
    Instr.wf .flerp = true ∧ hasFloatResult .flerp ∧ Instr.wf .lum = true ∧ ¬ hasFloatResult .lum ∧
    Rejected illegalWord.cmd :=
  ⟨rfl, .inr (.inl rfl), rfl, by simp [hasFloatResult], rejected_2030⟩

theorem witness_EveryStepKeepsTheResponsesInvariant :
    ResponsesInv midRun ∧ (∃ t, step midRun = .next t) := by
  refine ⟨?_, _, rfl⟩
  intro p hp
  have : p = violated := by simpa [midRun] using hp
  subst this
  exact ⟨by decide, by decide, by decide⟩

theorem witness_CommandsWaitForARequestAndTheBuses :
    (State.resetWith dflt).inFlight = [] ∧
    ({ midRun with presented := some violated } : State).presented ≠ none := by decide

theorem witness_CommandsLeaveTheRestUnchanged : ∃ t, exec .pack565 midRun = .next t := ⟨_, rfl⟩

/-- The states `GivesInt`, `GivesFloat` and `GivesViolation` speak of: one request alone, and one with another
behind it. -/
theorem witness_Gives :
    ((lone dflt good).straps = dflt ∧ (lone dflt good).presented = none ∧
      (lone dflt good).inFlight = [good]) ∧
    (midRun.straps = dflt ∧ midRun.presented = none ∧ midRun.inFlight = good :: [bad]) := by decide

theorem witness_Pack32PacksFourChannels :
    ((255 : Word).toNat ≤ 255 ∧ (0 : Word).toNat ≤ 255) ∧ (256 : Word).toNat > 255 := by decide

theorem witness_Pack565PacksThreeChannels :
    (good.x1.toNat ≤ 31 ∧ good.x2.toNat ≤ 63 ∧ good.x3.toNat ≤ 31) ∧ bad.x1.toNat > 31 ∧
    (ints 0x1400 0 0 64 0).x2.toNat > 63 ∧ (ints 0x1400 0 0 0 32).x3.toNat > 31 := by decide

theorem witness_Pack4444PacksFourChannels :
    ((15 : Word).toNat ≤ 15 ∧ (0 : Word).toNat ≤ 15) ∧ (16 : Word).toNat > 15 := by decide

theorem witness_PackThenExtractRecoversTheChannels :
    intResult dflt (.pack32 .argb) 255 0 255 0 = some 0xFF00FF00 ∧
    intResult dflt .pack565 0 31 63 31 = some 0xFFFF ∧
    intResult dflt .pack4444 15 1 2 3 = some 0xF123 := by decide

theorem witness_SwaprbConvertsBetweenTheVariants :
    0xFFFFFFFF < 2 ^ 32 ∧ intResult dflt .swaprb 0xFF123456 0 0 0 = some 0xFF563412 ∧
    intResult dflt (.pack32 .argb) 255 0x12 0x34 0x56 = some 0xFF123456 ∧
    intResult dflt (.pack32 .abgr) 255 0x12 0x34 0x56 = some 0xFF563412 := by decide

theorem witness_WidenReplicatesBits :
    (15 : Word).toNat < 16 ∧ (31 : Word).toNat < 32 ∧ (63 : Word).toNat < 64 ∧
    2 ^ bitsOf .w4 ≤ (16 : Word).toNat ∧ 2 ^ bitsOf .w5 ≤ (32 : Word).toNat ∧
    2 ^ bitsOf .w6 ≤ (64 : Word).toNat := by decide

theorem witness_NarrowTruncates : (255 : Word).toNat ≤ 255 ∧ (256 : Word).toNat > 255 := by decide

theorem witness_NarrowOfWidenIsExact :
    63 < 2 ^ bitsOf .w6 ∧ intResult dflt (.widen .w6) 63 0 0 0 = some 255 ∧
    intResult dflt (.narrow .w6) 255 0 0 0 = some 63 := by decide

theorem witness_WidenOfNarrowIsWithinAStep :
    255 ≤ 255 ∧ intResult dflt (.narrow .w4) 0x0F 0 0 0 = some 0 ∧
    intResult dflt (.widen .w4) 0 0 0 0 = some 0 := by decide

theorem witness_Blend8BlendsTwoBytes :
    ((255 : Word).toNat ≤ 255 ∧ (256 : Word).toNat ≤ 256) ∧
    (256 : Word).toNat > 255 ∧ (257 : Word).toNat > 256 := by decide

theorem witness_Scale255ConvertsTheWeight : (255 : Word).toNat ≤ 255 ∧ (256 : Word).toNat > 255 := by decide

theorem witness_Interp256InterpolatesFourBytes :
    (256 : Word).toNat ≤ 256 ∧ (257 : Word).toNat > 256 := by decide

theorem witness_Interp255InterpolatesFourBytes :
    (255 : Word).toNat ≤ 255 ∧ (256 : Word).toNat > 255 := by decide

/-- A source premultiplied at the bound (red = alpha), and one past it. -/
theorem witness_Srcover16Composites :
    (chan32 dflt .argb .r 0x80800000 ≤ chan32 dflt .argb .a 0x80800000 ∧
      chan32 dflt .argb .g 0x80800000 ≤ chan32 dflt .argb .a 0x80800000 ∧
      chan32 dflt .argb .b 0x80800000 ≤ chan32 dflt .argb .a 0x80800000) ∧
    chan32 dflt .argb .r 0x80810000 > chan32 dflt .argb .a 0x80810000 ∧
    chan32 dflt .argb .g 0x80008100 > chan32 dflt .argb .a 0x80008100 ∧
    chan32 dflt .argb .b 0x80000081 > chan32 dflt .argb .a 0x80000081 := by decide

theorem witness_LumWeighsTheChannels : (255 : Word).toNat ≤ 255 ∧ (256 : Word).toNat > 255 := by decide

theorem witness_ByteBlendStaysBetweenItsOperands :
    255 ≤ 255 ∧ 256 ≤ 256 ∧ intResult dflt .blend8 255 0 256 0 = some 255 ∧
    intResult dflt .blend8 0 255 0 0 = some 255 := by decide

theorem witness_EveryBlendPathGivesTheSameWord : 256 ≤ 256 ∧ 0 ≤ 256 := by decide

theorem witness_SplayLanesNeverCollide : biasOf dflt ≤ 128 ∧ 256 ≤ 256 := by decide

theorem witness_InterpolationEndpointsAreExact : 0x12345678 < 2 ^ 32 ∧ 0xFFFFFFFF < 2 ^ 32 := by decide

theorem witness_InterpolationKeepsPremultiplication :
    byte32 0x80808080 0 ≤ byte32 0x80808080 3 ∧ byte32 0x80808080 1 ≤ byte32 0x80808080 3 ∧
    byte32 0x80808080 2 ≤ byte32 0x80808080 3 ∧ 256 ≤ 256 := by decide

theorem witness_Srcover16Laws :
    (255 ≤ 255 ∧ 31 ≤ 31 ∧ 63 ≤ 63) ∧ 0xFFFFFFFF < 2 ^ 32 ∧
    chan32 dflt .argb .a 0xFF00FF00 = 255 := by decide

theorem witness_LumLaws :
    255 ≤ 255 ∧ intResult dflt .lum 255 255 255 0 = some 255 := by decide

/-- The largest finite value times 1 and times 2: the two sides of the overflow threshold. -/
theorem witness_FloatProductIsCorrectlyRounded :
    FinitePattern 0x7F7FFFFF ∧ FinitePattern 0x3F800000 ∧ FinitePattern 0x40000000 ∧
    (value 0x7F7FFFFF * value 0x3F800000).natAbs < (2 ^ 25 - 1) * 2 ^ (252 + 149) ∧
    ¬ (value 0x7F7FFFFF * value 0x40000000).natAbs < (2 ^ 25 - 1) * 2 ^ (252 + 149) := by
  unfold FinitePattern
  decide +kernel

/-- An exact zero sum, an overflow, and two negative zeros. -/
theorem witness_FloatSumIsCorrectlyRounded :
    FinitePattern 0x7F7FFFFF ∧ FinitePattern 0xFF7FFFFF ∧ FinitePattern 0x80000000 ∧
    value 0x7F7FFFFF + value 0xFF7FFFFF = 0 ∧
    ¬ (value 0x7F7FFFFF + value 0x7F7FFFFF).natAbs < (2 ^ 25 - 1) * 2 ^ (252 + 0) ∧
    value 0x80000000 + value 0x80000000 = 0 := by
  unfold FinitePattern
  decide +kernel

theorem witness_Ffrom32ConvertsToFloats : 255 ≤ 255 ∧ 254 ≤ 255 := by decide

/-- Infinities and lanes outside [0,1] are converted; a NaN in one lane is a violation. -/
theorem witness_Fto32ConvertsToBytes :
    EveryLane (fun x => ¬ NaNPattern x) ⟨0x7F800000, 0xFF800000, 0x80000000, 0x40000000⟩ ∧
    ¬ EveryLane (fun x => ¬ NaNPattern x) ⟨0, 0, 0x7F800001, 0⟩ := by
  unfold EveryLane NaNPattern
  decide

/-- Weights and lanes at both ends of [0,1] and one pattern past 1. -/
theorem witness_FlerpInterpolatesFloats :
    (InUnit 0 ∧ InUnit 0x3F800000 ∧ EveryLane InUnit ⟨0, 0x3F800000, 0x80000000, 0x3F000000⟩) ∧
    ¬ InUnit 0x3F800001 ∧ ¬ InUnit 0x80000001 ∧ ¬ EveryLane InUnit ⟨0, 0, 0, 0x3F800001⟩ := by
  unfold EveryLane InUnit
  decide

theorem witness_FsrcoverComposites :
    EveryLane InUnit ⟨0x3F800000, 0, 0x80000000, 0x3F000000⟩ ∧ InUnit 0x80000000 ∧ InUnit 0x3F800000 ∧
    ¬ EveryLane InUnit ⟨0x3F800001, 0, 0, 0⟩ := by
  unfold EveryLane InUnit
  decide

theorem witness_FloatPathDiffersFromIntegerPath : dflt.blendBias = .bias128 := by decide

theorem witness_FlerpEndpointsAreExact :
    EveryLane InUnit ⟨0x80000000, 0x80000000, 0, 1⟩ ∧ EveryLane InUnit ⟨0x80000000, 0, 0x80000000, 0x3F800000⟩ := by
  unfold EveryLane InUnit
  decide

end Sys2Proof.Tests
end

section
/-! SUPPORT. The rule of every command, named once, with what `exec` and `result` are in terms of it. -/

namespace Sys2Proof.Machine

/-- The rule by which a command answers. -/
def ruleOf : Instr → Straps → Request → Answer
  | .ext32 f ch => ext32Rule f ch
  | .pack32 f => pack32Rule f
  | .swaprb => swaprbRule
  | .ext565 ch => ext565Rule ch
  | .pack565 => pack565Rule
  | .ext4444 ch => ext4444Rule ch
  | .pack4444 => pack4444Rule
  | .widen w => widenRule w
  | .narrow w => narrowRule w
  | .blend8 => blend8Rule
  | .scale255 => scale255Rule
  | .interp256 => interp256Rule
  | .interp255 => interp255Rule
  | .srcover16 f => srcover16Rule f
  | .lum => lumRule
  | .ffrom32 f => ffrom32Rule f
  | .fto32 f => fto32Rule f
  | .flerp => flerpRule
  | .fsrcover => fsrcoverRule

/-- The meaning of a command is answering by its rule. -/
theorem exec_eq_answer (i : Instr) (s : State) : exec i s = answer (ruleOf i) s := by
  cases i <;> rfl

/-- With the response buses free, a command gives the oldest request its rule's answer. -/
theorem exec_of_ready (i : Instr) {s : State} {r : Request} {q : List Request}
    (hp : s.presented = none) (hf : s.inFlight = r :: q) :
    exec i s = .next (s.give q (ruleOf i s.straps r)) :=
  (exec_eq_answer i s).trans (answer_of_ready hp hf)

theorem exec_lone (i : Instr) (c : Straps) (r : Request) :
    exec i (lone c r) = .next ((lone c r).give [] (ruleOf i c r)) :=
  exec_of_ready i rfl rfl

/-- The result of a command is the response of its rule's answer, if that is no violation. -/
theorem result_of_not_violation {i : Instr} {c : Straps} {r : Request}
    (h : ruleOf i c r ≠ .violation) : result c i r = some ((ruleOf i c r).response c 0) := by
  have hfault : (ruleOf i c r).faultAfter none = none := (faultAfter_eq_none_iff _ _).mpr ⟨rfl, h⟩
  simp [result, exec_lone, hfault]

/-- A word that decode rejects is answered ILLEGAL with zeros (R261). -/
theorem loneResponse_of_error {r : Request} {e : IllegalWord} (c : Straps)
    (h : decode r.cmd = .error e) : loneResponse c r = some ⟨.illegal, 0, .zero⟩ := by
  have hanswer : answerOldest (lone c r) = .next ((lone c r).give [] .illegal) :=
    (answerOldest_of_error rfl h).trans (answer_of_ready rfl rfl)
  simp [loneResponse, hanswer]

end Sys2Proof.Machine
end

section
/-! SUPPORT. What a rule reads of a request (R38, R91), and which result bus it names (R37). -/

namespace Sys2Proof.Machine

open Sys2Proof.Statements

/-- A field that ends at or below bit `n` does not see the bits from `n` up. -/
theorem field_mod_two_pow {lo width n : Nat} (v : Nat) (h : lo + width ≤ n) :
    field (v % 2 ^ n) lo width = field v lo width := by
  apply Nat.eq_of_testBit_eq
  intro i
  simp only [field, Nat.testBit_mod_two_pow, Nat.testBit_shiftRight]
  by_cases hi : i < width
  · have hn : lo + i < n := by omega
    simp [hn]
  · simp [hi]

/-- Buses with the same low 16 bits have the same fields there. -/
theorem field_eq_of_low16_eq {x y : Word} {lo width : Nat}
    (h : x.extractLsb' 0 16 = y.extractLsb' 0 16) (hlo : lo + width ≤ 16) :
    field x.toNat lo width = field y.toNat lo width := by
  have hmod : x.toNat % 2 ^ 16 = y.toNat % 2 ^ 16 := by
    simpa using congrArg BitVec.toNat h
  rw [← field_mod_two_pow x.toNat hlo, hmod, field_mod_two_pow y.toNat hlo]

theorem pos565_le (ch : Chan) : (pos565 ch).1 + (pos565 ch).2 ≤ 16 := by
  cases ch <;> decide

theorem pos4444_le (l : Layout4444) (ch : Chan) : pos4444 l ch + 4 ≤ 16 := by
  cases l <;> cases ch <;> decide

/-- A command's rule gives the same answer to requests that agree on what it reads (R38). -/
theorem ruleOf_eq_of_sameReads {i : Instr} {r r' : Request} (c : Straps) (h : SameReads i r r') :
    ruleOf i c r = ruleOf i c r' := by
  cases i with
  | ext565 ch =>
    simp only [ruleOf, ext565Rule, field_eq_of_low16_eq h (pos565_le ch)]
  | ext4444 ch =>
    simp only [ruleOf, ext4444Rule, field_eq_of_low16_eq h (pos4444_le c.layout4444 ch)]
  | srcover16 f =>
    obtain ⟨hx0, hx1⟩ := h
    have hr := field_eq_of_low16_eq (lo := 11) (width := 5) hx1 (by decide)
    have hg := field_eq_of_low16_eq (lo := 5) (width := 6) hx1 (by decide)
    have hb := field_eq_of_low16_eq (lo := 0) (width := 5) hx1 (by decide)
    simp only [ruleOf, srcover16Rule, hx0, hr, hg, hb]
  | ext32 | pack32 | swaprb | pack565 | pack4444 =>
    simp only [SameReads] at h
    simp only [ruleOf, ext32Rule, pack32Rule, swaprbRule, pack565Rule, pack4444Rule, h]
  | widen | narrow =>
    simp only [SameReads] at h
    simp only [ruleOf, widenRule, narrowRule, h]
  | blend8 | scale255 | interp256 | interp255 | lum =>
    simp only [SameReads] at h
    simp only [ruleOf, blend8Rule, scale255Rule, interp256Rule, interp255Rule, lumRule, h]
  | ffrom32 | fto32 | flerp | fsrcover =>
    simp only [SameReads] at h
    simp only [ruleOf, ffrom32Rule, fto32Rule, flerpRule, fsrcoverRule, h]

/-- All that a command takes from the oldest request is its rule's answer, so requests that agree on what the rule
reads have the same next state. -/
theorem exec_eq_of_sameReads {i : Instr} {s : State} {r r' : Request} (q : List Request)
    (hp : s.presented = none) (h : SameReads i r r') :
    exec i { s with inFlight := r :: q } = exec i { s with inFlight := r' :: q } := by
  have hrule := ruleOf_eq_of_sameReads s.straps h
  calc exec i { s with inFlight := r :: q }
    _ = .next (s.give q (ruleOf i s.straps r)) := exec_of_ready i hp rfl
    _ = .next (s.give q (ruleOf i s.straps r')) := by rw [hrule]
    _ = exec i { s with inFlight := r' :: q } :=
      (exec_of_ready (s := { s with inFlight := r' :: q }) i hp rfl).symm

/-- What a rule with a `require` can give. -/
theorem require_cases (b : Bool) (a : Answer) : require b a = a ∨ require b a = .violation := by
  cases b
  · exact .inr rfl
  · exact .inl rfl

/-- The rule of a command with a float result names FY, or the request violates a precondition. -/
theorem ruleOf_of_hasFloatResult {i : Instr} (h : hasFloatResult i) (c : Straps) (r : Request) :
    (∃ fy, ruleOf i c r = .float fy) ∨ ruleOf i c r = .violation := by
  obtain ⟨f, rfl⟩ | rfl | rfl := h
  · exact .inl ⟨_, rfl⟩
  · exact (require_cases _ _).imp_left fun h => ⟨_, h⟩
  · exact (require_cases _ _).imp_left fun h => ⟨_, h⟩

/-- The rule of every other command of the unit names Y, or the request violates a precondition. -/
theorem ruleOf_of_not_hasFloatResult {i : Instr} (hwf : i.wf = true) (h : ¬ hasFloatResult i)
    (c : Straps) (r : Request) :
    (∃ y, ruleOf i c r = .integer y) ∨ ruleOf i c r = .violation := by
  cases i with
  | ext32 | swaprb | ext4444 => exact .inl ⟨_, rfl⟩
  | ext565 ch =>
    have hch : ch ≠ .a := by simpa [Instr.wf] using hwf
    exact .inl ⟨_, if_neg hch⟩
  | pack32 | pack565 | pack4444 | widen | narrow | blend8 | scale255 | interp256 | interp255
  | srcover16 | lum | fto32 => exact (require_cases _ _).imp_left fun h => ⟨_, h⟩
  | ffrom32 f => exact absurd (.inl ⟨f, rfl⟩) h
  | flerp => exact absurd (.inr (.inl rfl)) h
  | fsrcover => exact absurd (.inr (.inr rfl)) h

end Sys2Proof.Machine
end

section
/-! The statements of 10_state.md on the operand and result buses. -/

namespace Sys2Proof.Machine

open Sys2Proof.Statements

/-- Settles O16: the two requests have the same next state. So they agree even on a violation, whose free values
are drawn at the same count. -/
theorem ignoredBusesHaveNoEffect : Obligations.IgnoredBusesHaveNoEffect := by
  intro i s r r' q hp hreads
  have hnext := exec_of_ready (s := { s with inFlight := r :: q }) i hp rfl
  exact ⟨_, _, _, _, hnext, (exec_eq_of_sameReads q hp hreads).symm.trans hnext,
    rfl, rfl, rfl, rfl, fun _ => rfl⟩

/-- Settles O17, by the result bus each command's rule names. -/
theorem unnamedResultBusesAreZero : Obligations.UnnamedResultBusesAreZero := by
  refine ⟨fun c i r hwf => ?_, fun c r ⟨e, he⟩ => loneResponse_of_error c he⟩
  have violation (h : ruleOf i c r = .violation) :
      ∃ t, exec i (lone c r) = .next t ∧ t.fault = some .preconditionViolated :=
    ⟨_, exec_lone i c r, by simp [h, Answer.faultAfter]⟩
  by_cases hfloat : hasFloatResult i
  · rcases ruleOf_of_hasFloatResult hfloat c r with ⟨fy, h⟩ | h
    · exact .inl ⟨_, result_of_not_violation (by simp [h]), by simp [h, hfloat]⟩
    · exact .inr (violation h)
  · rcases ruleOf_of_not_hasFloatResult hwf hfloat c r with ⟨y, h⟩ | h
    · exact .inl ⟨_, result_of_not_violation (by simp [h]), by simp [h, hfloat, FVec.zero]⟩
    · exact .inr (violation h)

end Sys2Proof.Machine
end

section
/-! SUPPORT. What each operation of the interface makes of the outcome of the run (R66, R67). -/

namespace Sys2Proof.Machine

/-- What R67 asks of a step from `s` to `t`: the outcome is kept, but for the response to a violating oldest
request, of which the place and the STATUS are kept. -/
def KeepsOutcome (s t : State) : Prop :=
  ((∀ r ∈ s.inFlight.head?, violates s.straps r = false) → t.outcome = s.outcome) ∧
  (∀ n, n ≠ s.placeOfOldest → t.outcome[n]? = s.outcome[n]?) ∧
  t.outcome.map (fun p => p.status) = s.outcome.map (fun p => p.status)

theorem keepsOutcome_of_eq {s t : State} (h : t.outcome = s.outcome) : KeepsOutcome s t := by
  simp [KeepsOutcome, h]

/-- Using up a move that presents nothing makes no difference to the outcome. -/
theorem outcome_withMoves {s : State} {ms : List Move} (h : requestsOf s.moves = requestsOf ms) :
    (s.withMoves ms).outcome = s.outcome := by
  simp [State.outcome, h]

/-- An accepted request goes from the head of those to come to the end of those in flight. -/
theorem outcome_accept {s : State} {r : Request} {ms : List Move} (h : s.moves = .present r :: ms) :
    ((s.withMoves ms).accept r).outcome = s.outcome := by
  simp [State.outcome, h]

/-- A taken response goes from the response buses to the end of those taken. -/
@[simp] theorem outcome_take (s : State) : s.take.outcome = s.outcome := by
  simp [State.outcome]

/-- With the response buses free, the outcome has at the place of the oldest request its response alone. -/
theorem outcome_of_ready {s : State} {r : Request} {q : List Request} {p : Response}
    (hp : s.presented = none) (hf : s.inFlight = r :: q) (hr : loneResponse s.straps r = some p) :
    s.outcome = s.taken ++ p :: (q ++ requestsOf s.moves).filterMap (loneResponse s.straps) := by
  simp [State.outcome, hp, hf, hr]

/-- An answer puts its response there and leaves the rest of the outcome as it was. -/
theorem outcome_give (s : State) (q : List Request) (a : Answer) :
    (s.give q a).outcome = s.taken ++ a.response s.straps s.draws
      :: (q ++ requestsOf s.moves).filterMap (loneResponse s.straps) := by
  simp [State.outcome]

/-- Two lists that differ in one element agree at every other place. -/
theorem getElem?_append_cons_of_ne {α : Type} (l l' : List α) (x y : α) {n : Nat} (hn : n ≠ l.length) :
    (l ++ x :: l')[n]? = (l ++ y :: l')[n]? := by
  have hset : (l ++ x :: l').set l.length y = l ++ y :: l' := by simp
  rw [← hset, List.getElem?_set_ne hn.symm]

/-- Answering gives the oldest request its rule's response: the one it has alone, but for the free values of a
violation. -/
theorem answerOldest_keepsOutcome {s t : State} (h : answerOldest s = .next t) : KeepsOutcome s t := by
  rcases answerOldest_cases s with ⟨r, q, -, hp, hf, -⟩ | ⟨-, hidle⟩
  · obtain ⟨rule, hrule, hlone⟩ := request_rule r
    obtain ⟨hresponse, hviolates⟩ := hlone s.straps
    have ht : t = s.give q (rule s.straps r) := by
      simpa [h] using (hrule s q hf).trans (answer_of_ready hp hf)
    have hs := outcome_of_ready hp hf hresponse
    have hplace : s.placeOfOldest = s.taken.length := by simp [State.placeOfOldest, hp]
    unfold KeepsOutcome
    rw [ht, outcome_give, hs, hplace]
    refine ⟨fun hok => ?_, fun n hn => getElem?_append_cons_of_ne _ _ _ _ hn, ?_⟩
    · have hne : rule s.straps r ≠ .violation := by simpa [hviolates] using hok r (by simp [hf])
      rw [response_eq_of_not_violation hne s.straps s.draws 0]
    · simp [response_status_eq (rule s.straps r) s.straps s.draws 0]
  · have ht : t = s := by simpa [h] using hidle
    exact keepsOutcome_of_eq (by rw [ht])

end Sys2Proof.Machine
end

section
/-! The statement of 20_memory.md on result independence. -/

namespace Sys2Proof.Machine

/-- Settles O12, by the kind of move: accepting and taking only regroup the outcome, and answering replaces the
oldest request's response alone by the one its rule gives. -/
theorem everyStepKeepsTheOutcome : Obligations.EveryStepKeepsTheOutcome := by
  intro s t hstep hreset
  change KeepsOutcome s t
  cases hm : s.moves with
  | nil => exact answerOldest_keepsOutcome ((step_of_no_move hm).symm.trans hstep)
  | cons m ms =>
    rw [step_of_move hm] at hstep
    cases m with
    | present r =>
      obtain rfl : (s.withMoves ms).accept r = t := by simpa using hstep
      exact keepsOutcome_of_eq (outcome_accept hm)
    | answer =>
      have hkeeps : KeepsOutcome (s.withMoves ms) t := answerOldest_keepsOutcome hstep
      rw [KeepsOutcome, outcome_withMoves (by simp [hm])] at hkeeps
      exact hkeeps
    | take =>
      obtain rfl : (s.withMoves ms).take = t := by simpa using hstep
      exact keepsOutcome_of_eq ((outcome_take _).trans (outcome_withMoves (by simp [hm])))
    | reset => simp [hm] at hreset

end Sys2Proof.Machine
end

section
/-! SUPPORT. What a row of the opcode map accepts, and that a word decodes by a row alone (30_encoding.md R86 to R90). -/

namespace Sys2Proof

open Sys2Proof.Statements

/-- The row accepts the word: OP is the row's, the bits the row fixes agree with its match (R86, R87), and no field
it uses has a reserved value (R88). -/
structure Row.Accepts (row : Row) (w : CmdWord) : Prop where
  op_eq : opField w = row.op
  match_eq : w &&& row.mask = row.pattern
  fmt_ne : row.usesFmt = true → fmtField w ≠ 3
  width_ne : row.usesW = true → wField w ≠ 3
  chan_ne : row.noAlpha = true → chField w ≠ 0

/-- A row decodes only the words it accepts, each to a command of the row. -/
theorem accepts_of_decodeIn_eq_ok {row : Row} {w : CmdWord} {i : Instr} (hop : opField w = row.op)
    (h : decodeIn row w = .ok i) : row.Accepts w ∧ ∃ f c wd, i = row.build f c wd := by
  unfold decodeIn at h
  split_ifs at h with hmatch hfmt hwidth halpha
  refine ⟨⟨hop, not_not.mp hmatch, fun hu h3 => hfmt ?_, fun hu h3 => hwidth ?_, fun hu h0 => halpha ?_⟩,
    _, _, _, (Except.ok.inj h).symm⟩
  · simp [hu, h3, fmtOfCode]
  · simp [hu, h3, widthOfCode]
  · simp [hu, h0]

/-- A legal word is accepted by a row, and stands for a command of that row. -/
theorem exists_row_of_decode_eq_ok {w : CmdWord} {i : Instr} (h : decode w = .ok i) :
    ∃ row ∈ rows, row.Accepts w ∧ ∃ f c wd, i = row.build f c wd := by
  unfold decode at h
  split at h
  case h_1 => exact absurd h (by simp)
  case h_2 row hrow =>
    have hop : row.op = opField w := by simpa using List.find?_some hrow
    exact ⟨row, List.mem_of_find?_eq_some hrow, accepts_of_decodeIn_eq_ok hop.symm h⟩

/-- A word that no row accepts is rejected. -/
theorem rejected_of_no_row {w : CmdWord} (h : ∀ row ∈ rows, ¬ row.Accepts w) : Rejected w := by
  cases hd : decode w with
  | error e => exact ⟨e, hd⟩
  | ok i =>
    obtain ⟨row, hmem, hacc, -⟩ := exists_row_of_decode_eq_ok hd
    exact absurd hacc (h row hmem)

theorem rsvField_and (v w : CmdWord) : rsvField (v &&& w) = rsvField v &&& rsvField w :=
  BitVec.extractLsb'_and

/-- A word that some row accepts has RSV = 0, because every row fixes RSV to 0 (R86). -/
theorem rsvField_eq_zero_of_accepts {row : Row} {w : CmdWord} (hmem : row ∈ rows)
    (h : row.Accepts w) : rsvField w = 0 := by
  obtain ⟨hmask, -, hpattern⟩ := rows_fix_op_and_rsv row hmem
  have hfixed : rsvField row.mask &&& rsvField 0xFC0F = rsvField 0xFC0F := by
    rw [← rsvField_and, hmask]
  calc rsvField w
    _ = rsvField w &&& rsvField 0xFC0F := (BitVec.and_allOnes (x := rsvField w)).symm
    _ = rsvField (w &&& row.mask) &&& rsvField 0xFC0F := by
      rw [rsvField_and, BitVec.and_assoc, hfixed]
    _ = 0 := by simp [h.match_eq, hpattern]

/-- EXT32, PACK32, SRCOVER16, FFROM32 and FTO32 use FMT (R82). -/
theorem usesFmt_of_op : ∀ row ∈ rows, row.op.toNat ∈ [0x01, 0x02, 0x14, 0x18, 0x19] → row.usesFmt = true := by
  decide

/-- WIDEN and NARROW use W (R82). -/
theorem usesW_of_op : ∀ row ∈ rows, row.op.toNat ∈ [0x08, 0x09] → row.usesW = true := by decide

/-- In EXT565 the channel A is reserved (R88). -/
theorem noAlpha_of_op : ∀ row ∈ rows, row.op.toNat = 0x04 → row.noAlpha = true := by decide

/-- Every other OP value is unassigned (R89). -/
theorem op_assigned : ∀ row ∈ rows, row.op.toNat ∈ [0x01, 0x02, 0x03, 0x04, 0x05, 0x06, 0x07, 0x08, 0x09,
    0x10, 0x11, 0x12, 0x13, 0x14, 0x15, 0x18, 0x19, 0x1A, 0x1B] := by decide

/-- The match and mask of a command are those of the row it comes from, whatever its qualifiers (R82). -/
theorem rowMask_rowMatch_build (f : Fmt) (c : Chan) (wd : Width) :
    ∀ row ∈ rows, rowMask (row.build f c wd) = row.mask ∧ rowMatch (row.build f c wd) = row.pattern := by
  intro row hmem
  fin_cases hmem <;> exact ⟨rfl, rfl⟩

end Sys2Proof
end

section
/-! The statements of 30_encoding.md on rejected words and on the rows' match and mask. -/

namespace Sys2Proof

/-- Settles O4: in each case every row rejects the word, by its RSV bits, a field with a reserved value, or its OP. -/
theorem reservedEncodingsAreIllegal : Obligations.ReservedEncodingsAreIllegal := by
  intro w
  refine ⟨fun hrsv => rejected_of_no_row fun row hmem h => ?_,
    fun hop hfmt => rejected_of_no_row fun row hmem h => ?_,
    fun hop hwidth => rejected_of_no_row fun row hmem h => ?_,
    fun hop hchan => rejected_of_no_row fun row hmem h => ?_,
    fun hop => rejected_of_no_row fun row hmem h => ?_,
    .unassignedOp, by decide⟩
  · exact hrsv (rsvField_eq_zero_of_accepts hmem h)
  · exact h.fmt_ne (usesFmt_of_op row hmem (h.op_eq ▸ hop)) hfmt
  · exact h.width_ne (usesW_of_op row hmem (h.op_eq ▸ hop)) hwidth
  · exact h.chan_ne (noAlpha_of_op row hmem (h.op_eq ▸ hop)) hchan
  · exact absurd (op_assigned row hmem) (h.op_eq ▸ hop)

/-- Settles O5: the row that accepts the word is the row of the command it decodes to. -/
theorem legalWordsMatchTheirRow : Obligations.LegalWordsMatchTheirRow := by
  intro w i h
  obtain ⟨row, hmem, hacc, f, c, wd, rfl⟩ := exists_row_of_decode_eq_ok h
  obtain ⟨hmask, hmatch⟩ := rowMask_rowMatch_build f c wd row hmem
  rw [hmask, hmatch, hacc.match_eq]

end Sys2Proof
end

section
/-! SUPPORT. What a command gives, from the answer its rule names: later proofs cite these lemmas and unfold neither
`GivesInt`, `GivesViolation` nor `intResult`. -/

namespace Sys2Proof.Machine

/-- A command whose rule names Y gives that Y. -/
theorem givesInt_of_ruleOf {i : Instr} {c : Straps} {r : Request} {w : Word} {y : Nat}
    (hrule : ruleOf i c r = .integer w) (hy : w.toNat = y) : GivesInt i c r y := by
  subst hy
  refine ⟨w.isLt, fun s q hc hp hf => ?_⟩
  subst hc
  rw [exec_of_ready i hp hf, hrule, BitVec.ofNat_toNat, BitVec.setWidth_eq]
  rfl

theorem violationStatus_eq (m : CheckMode) :
    violationStatus m = if m = .debug then .precond else .ok := by
  cases m <;> rfl

/-- A command whose rule finds a violation gives one. -/
theorem givesViolation_of_ruleOf {i : Instr} {c : Straps} {r : Request}
    (hrule : ruleOf i c r = .violation) : GivesViolation i c r := by
  intro s q hc hp hf
  subst hc
  rw [exec_of_ready i hp hf, hrule, ← violationStatus_eq]
  exact ⟨_, _, _, rfl⟩

/-- A command with a `require` that holds gives its Y. -/
theorem givesInt_of_require {i : Instr} {c : Straps} {r : Request} {b : Bool} {w : Word} {y : Nat}
    (hrule : ruleOf i c r = require b (.integer w)) (hb : b = true) (hy : w.toNat = y) :
    GivesInt i c r y :=
  givesInt_of_ruleOf (by rw [hrule, hb, require_true]) hy

/-- A command with a `require` that is false gives a violation (R22). -/
theorem givesViolation_of_require {i : Instr} {c : Straps} {r : Request} {b : Bool} {a : Answer}
    (hrule : ruleOf i c r = require b a) (hb : b = false) : GivesViolation i c r :=
  givesViolation_of_ruleOf (by rw [hrule, hb, require_false])

/-- What a command gives in every state, it gives on integer operands alone. -/
theorem intResult_of_givesInt {i : Instr} {c : Straps} {x0 x1 x2 x3 y : Nat}
    (h : GivesInt i c (intRequest i x0 x1 x2 x3) y) : intResult c i x0 x1 x2 x3 = some y := by
  obtain ⟨hy, hexec⟩ := h
  have halone := hexec (lone c _) [] rfl rfl rfl
  simpa [intResult, result, halone, FVec.zero] using hy

@[simp] theorem intRequest_x0 (i : Instr) (x0 x1 x2 x3 : Nat) :
    (intRequest i x0 x1 x2 x3).x0 = toBus x0 := rfl

@[simp] theorem intRequest_x1 (i : Instr) (x0 x1 x2 x3 : Nat) :
    (intRequest i x0 x1 x2 x3).x1 = toBus x1 := rfl

@[simp] theorem intRequest_x2 (i : Instr) (x0 x1 x2 x3 : Nat) :
    (intRequest i x0 x1 x2 x3).x2 = toBus x2 := rfl

@[simp] theorem intRequest_x3 (i : Instr) (x0 x1 x2 x3 : Nat) :
    (intRequest i x0 x1 x2 x3).x3 = toBus x3 := rfl

end Sys2Proof.Machine
end

section
/-! SUPPORT. The packed formats by place values (41_format.md R110 to R115): the model's shifts, masks and ORs are
the sums and bit fields that the statements write. -/

namespace Sys2Proof.Machine

open Sys2Proof.Statements

/-- A digit of `n` bits appended by shift and OR. -/
theorem shiftLeft_or_eq {n y : Nat} (x : Nat) (hy : y < 2 ^ n) : x <<< n ||| y = x * 2 ^ n + y := by
  rw [← Nat.shiftLeft_add_eq_or_of_lt hy, Nat.shiftLeft_eq]

/-- Four digits of `n` bits joined by shifts and ORs. -/
theorem or_fourDigits {n x y z : Nat} (w : Nat) (hx : x < 2 ^ n) (hy : y < 2 ^ n) (hz : z < 2 ^ n) :
    w <<< (3 * n) ||| x <<< (2 * n) ||| y <<< n ||| z = ((w * 2 ^ n + x) * 2 ^ n + y) * 2 ^ n + z := by
  have hnested : w <<< (3 * n) ||| x <<< (2 * n) ||| y <<< n
      = ((w <<< n ||| x) <<< n ||| y) <<< n := by
    simp only [Nat.shiftLeft_or_distrib, ← Nat.shiftLeft_add]
    congr 3 <;> ring
  rw [hnested, shiftLeft_or_eq _ hz, shiftLeft_or_eq _ hy, shiftLeft_or_eq _ hx]

/-- The outer two of the last three operands of an OR exchanged. -/
theorem or_swap (w x y z : Nat) : w ||| x ||| y ||| z = w ||| z ||| y ||| x := by ac_rfl

/-- The first operand of an OR moved to its end. -/
theorem or_rotate (w x y z : Nat) : w ||| x ||| y ||| z = x ||| y ||| z ||| w := by ac_rfl

/-- A field put on a result bus is the bit field of the operand. -/
theorem toBus_field_toNat (x : Word) (lo width : Nat) (h : width ≤ 32) :
    (toBus (field x.toNat lo width)).toNat = (x.extractLsb' lo width).toNat := by
  have hlt : field x.toNat lo width < 2 ^ 32 :=
    (field_lt _ _ _).trans_le (Nat.pow_le_pow_right (by decide) h)
  rw [toBus_toNat hlt, BitVec.extractLsb'_toNat, field]

/-- The layout that the format and PM_ORDER select is the one of R110 or of R111 (R112). -/
theorem pos32_orderOf (c : Straps) (f : Fmt) (ch : Chan) : pos32 (orderOf c f) ch = lowBit c f ch := by
  cases ho : c.pmOrder <;> cases f <;> cases ch <;> simp [orderOf, ho, pos32, lowBit, isVariantA]

theorem get32_eq_chan32 (c : Straps) (p : Word) (f : Fmt) (ch : Chan) :
    get32 c p f ch = chan32 c f ch p := by
  rw [get32, pos32_orderOf, chan32, BitVec.extractLsb'_toNat, field]

/-- The model's packing of four bytes is the sum of their place values. -/
theorem put32_eq_color32 (c : Straps) (f : Fmt) {a r g b : Nat} (hr : r ≤ 255) (hg : g ≤ 255)
    (hb : b ≤ 255) : put32 c f a r g b = color32 c f a r g b := by
  have hr' : r < 2 ^ 8 := Nat.lt_succ_of_le hr
  have hg' : g < 2 ^ 8 := Nat.lt_succ_of_le hg
  have hb' : b < 2 ^ 8 := Nat.lt_succ_of_le hb
  simp only [put32, pos32_orderOf, color32, lowBit]
  cases isVariantA c f with
  | true =>
    calc a <<< 24 ||| r <<< 16 ||| g <<< 8 ||| b
      _ = ((a * 2 ^ 8 + r) * 2 ^ 8 + g) * 2 ^ 8 + b := or_fourDigits (n := 8) a hr' hg' hb'
      _ = a * 2 ^ 24 + r * 2 ^ 16 + g * 2 ^ 8 + b := by ring
  | false =>
    calc a <<< 24 ||| r ||| g <<< 8 ||| b <<< 16
      _ = a <<< 24 ||| b <<< 16 ||| g <<< 8 ||| r := or_swap _ _ _ _
      _ = ((a * 2 ^ 8 + b) * 2 ^ 8 + g) * 2 ^ 8 + r := or_fourDigits (n := 8) a hb' hg' hr'
      _ = a * 2 ^ 24 + b * 2 ^ 16 + g * 2 ^ 8 + r := by ring

theorem color32_lt (c : Straps) (f : Fmt) {a r g b : Nat} (ha : a ≤ 255) (hr : r ≤ 255) (hg : g ≤ 255)
    (hb : b ≤ 255) : color32 c f a r g b < 2 ^ 32 := by
  unfold color32
  split_ifs <;> omega

/-- The model's joining of three narrow values is the sum of their place values (R113). -/
theorem or_565_eq {g b : Nat} (r : Nat) (hg : g ≤ 63) (hb : b ≤ 31) :
    r <<< 11 ||| g <<< 5 ||| b = r * 2048 + g * 32 + b := by
  have hg' : g < 2 ^ 6 := Nat.lt_succ_of_le hg
  have hb' : b < 2 ^ 5 := Nat.lt_succ_of_le hb
  calc r <<< 11 ||| g <<< 5 ||| b
    _ = (r <<< 6 ||| g) <<< 5 ||| b := by rw [Nat.shiftLeft_or_distrib, ← Nat.shiftLeft_add]
    _ = (r * 2 ^ 6 + g) * 2 ^ 5 + b := by rw [shiftLeft_or_eq _ hb', shiftLeft_or_eq _ hg']
    _ = r * 2048 + g * 32 + b := by ring

theorem pos4444_eq (c : Straps) (ch : Chan) : pos4444 c.layout4444 ch = lowBit4444 c ch := by
  cases hl : c.layout4444 <;> cases ch <;> simp [pos4444, lowBit4444, hl]

/-- The model's joining of four nibbles is the sum of their place values (R114). -/
theorem or_4444_eq (c : Straps) {a r g b : Nat} (ha : a ≤ 15) (hr : r ≤ 15) (hg : g ≤ 15) (hb : b ≤ 15) :
    a <<< pos4444 c.layout4444 .a ||| r <<< pos4444 c.layout4444 .r
      ||| g <<< pos4444 c.layout4444 .g ||| b <<< pos4444 c.layout4444 .b = color4444 c a r g b := by
  have ha' : a < 2 ^ 4 := Nat.lt_succ_of_le ha
  have hr' : r < 2 ^ 4 := Nat.lt_succ_of_le hr
  have hg' : g < 2 ^ 4 := Nat.lt_succ_of_le hg
  have hb' : b < 2 ^ 4 := Nat.lt_succ_of_le hb
  unfold color4444
  cases c.layout4444 with
  | argb =>
    calc a <<< 12 ||| r <<< 8 ||| g <<< 4 ||| b
      _ = ((a * 2 ^ 4 + r) * 2 ^ 4 + g) * 2 ^ 4 + b := or_fourDigits (n := 4) a hr' hg' hb'
      _ = a * 4096 + r * 256 + g * 16 + b := by ring
  | rgba =>
    calc a ||| r <<< 12 ||| g <<< 8 ||| b <<< 4
      _ = r <<< 12 ||| g <<< 8 ||| b <<< 4 ||| a := or_rotate _ _ _ _
      _ = ((r * 2 ^ 4 + g) * 2 ^ 4 + b) * 2 ^ 4 + a := or_fourDigits (n := 4) r hg' hb' ha'
      _ = r * 4096 + g * 256 + b * 16 + a := by ring

theorem color4444_lt (c : Straps) {a r g b : Nat} (ha : a ≤ 15) (hr : r ≤ 15) (hg : g ≤ 15) (hb : b ≤ 15) :
    color4444 c a r g b < 2 ^ 16 := by
  unfold color4444
  split_ifs <;> omega

/-- The word SWAPRB gives (R122). -/
def swaprbWord (x : Word) : Word :=
  (x &&& 0xFF00FF00) ||| ((x >>> 16) &&& 0xFF) ||| ((x &&& 0xFF) <<< 16)

theorem ruleOf_swaprb (c : Straps) (r : Request) : ruleOf .swaprb c r = .integer (swaprbWord r.x0) := rfl

/-- The byte of the operand that SWAPRB puts at byte `i`: 0 and 2 change places. -/
def swaprbByte : Nat → Nat
  | 0 => 2
  | 2 => 0
  | i => i

theorem byte32_swaprbWord (x : Word) {i : Nat} (hi : i < 4) :
    byte32 (swaprbWord x) i = byte32 x (swaprbByte i) := by
  refine congrArg BitVec.toNat (BitVec.eq_of_getLsbD_eq fun k hk => ?_) -- bit `k` of the byte
  interval_cases i <;> interval_cases k <;> simp [swaprbWord, swaprbByte]

/-- A word is the sum of its bytes' place values. -/
theorem toNat_eq_bytes (x : Word) :
    x.toNat = byte32 x 3 * 2 ^ 24 + byte32 x 2 * 2 ^ 16 + byte32 x 1 * 2 ^ 8 + byte32 x 0 := by
  have hx : x.toNat < 2 ^ 32 := x.isLt
  simp only [byte32, BitVec.extractLsb'_toNat, Nat.shiftRight_eq_div_pow]
  omega

/-- The four channel values as a function of the channel. -/
def channelValue (a r g b : Nat) : Chan → Nat
  | .a => a
  | .r => r
  | .g => g
  | .b => b

theorem chan32_color32 (c : Straps) (f : Fmt) {a r g b : Nat} (ha : a ≤ 255) (hr : r ≤ 255) (hg : g ≤ 255)
    (hb : b ≤ 255) (ch : Chan) :
    chan32 c f ch (toBus (color32 c f a r g b)) = channelValue a r g b ch := by
  have hcolor := toBus_toNat (color32_lt c f ha hr hg hb)
  rw [chan32, BitVec.extractLsb'_toNat, hcolor, Nat.shiftRight_eq_div_pow]
  unfold color32 lowBit
  cases isVariantA c f <;> cases ch <;> simp [channelValue] <;> omega

end Sys2Proof.Machine
end

section
/-! SUPPORT. What each command of the format family gives, by place values and bit fields (41_format.md R120 to R126). -/

namespace Sys2Proof.Machine

open Sys2Proof.Statements

theorem givesInt_ext32 (c : Straps) (f : Fmt) (ch : Chan) (r : Request) :
    GivesInt (.ext32 f ch) c r (chan32 c f ch r.x0) := by
  refine givesInt_of_ruleOf (w := toBus (get32 c r.x0 f ch)) rfl ?_
  rw [toBus_toNat ((get32_le c r.x0 f ch).trans_lt (by decide)), get32_eq_chan32]

theorem givesInt_pack32 (c : Straps) (f : Fmt) {r : Request} (h0 : r.x0.toNat ≤ 255)
    (h1 : r.x1.toNat ≤ 255) (h2 : r.x2.toNat ≤ 255) (h3 : r.x3.toNat ≤ 255) :
    GivesInt (.pack32 f) c r (color32 c f r.x0.toNat r.x1.toNat r.x2.toNat r.x3.toNat) := by
  refine givesInt_of_require rfl (by simp [isByte, h0, h1, h2, h3]) ?_
  rw [put32_eq_color32 c f h1 h2 h3, toBus_toNat (color32_lt c f h0 h1 h2 h3)]

theorem givesInt_swaprb (c : Straps) (r : Request) : GivesInt .swaprb c r (swaprbWord r.x0).toNat :=
  givesInt_of_ruleOf (ruleOf_swaprb c r) rfl

/-- RGB565 has a field for every channel but alpha (R88, R123). -/
theorem givesInt_ext565 (c : Straps) {ch : Chan} (hch : ch ≠ .a) (r : Request) :
    GivesInt (.ext565 ch) c r (r.x0.extractLsb' (pos565 ch).1 (pos565 ch).2).toNat := by
  have hwidth : (pos565 ch).2 ≤ 32 := by cases ch <;> decide
  exact givesInt_of_ruleOf (if_neg hch) (toBus_field_toNat _ _ _ hwidth)

theorem givesInt_pack565 (c : Straps) {r : Request} (h1 : r.x1.toNat ≤ 31) (h2 : r.x2.toNat ≤ 63)
    (h3 : r.x3.toNat ≤ 31) :
    GivesInt .pack565 c r (r.x1.toNat * 2048 + r.x2.toNat * 32 + r.x3.toNat) := by
  refine givesInt_of_require rfl (by simp [isNarrow]; omega) ?_
  rw [or_565_eq _ h2 h3, toBus_toNat (by omega)]

theorem givesInt_ext4444 (c : Straps) (ch : Chan) (r : Request) :
    GivesInt (.ext4444 ch) c r (r.x0.extractLsb' (lowBit4444 c ch) 4).toNat := by
  refine givesInt_of_ruleOf (w := toBus (field r.x0.toNat (pos4444 c.layout4444 ch) 4)) rfl ?_
  rw [pos4444_eq, toBus_field_toNat _ _ _ (by decide)]

theorem givesInt_pack4444 (c : Straps) {r : Request} (h0 : r.x0.toNat ≤ 15) (h1 : r.x1.toNat ≤ 15)
    (h2 : r.x2.toNat ≤ 15) (h3 : r.x3.toNat ≤ 15) :
    GivesInt .pack4444 c r (color4444 c r.x0.toNat r.x1.toNat r.x2.toNat r.x3.toNat) := by
  have hlt := color4444_lt c h0 h1 h2 h3
  refine givesInt_of_require rfl (by simp [isNarrow]; omega) ?_
  rw [or_4444_eq c h0 h1 h2 h3, toBus_toNat (by omega)]

end Sys2Proof.Machine
end

section
/-! The statements of 41_format.md on the single commands. -/

namespace Sys2Proof.Machine

open Sys2Proof.Statements

/-- Settles O23. -/
theorem ext32ExtractsOneChannel : Obligations.Ext32ExtractsOneChannel := by
  intro c f ch r
  refine ⟨?_, ⟨.reservedFmt, ?_⟩, givesInt_ext32 c f ch r⟩
  · cases f <;> cases ch <;> decide
  · cases ch <;> decide

/-- Settles O24: the `require` holds exactly when all four channels are bytes. -/
theorem pack32PacksFourChannels : Obligations.Pack32PacksFourChannels := by
  intro c f r
  refine ⟨?_, ⟨.reservedFmt, by decide⟩, fun ⟨h0, h1, h2, h3⟩ => givesInt_pack32 c f h0 h1 h2 h3,
    fun h => givesViolation_of_require rfl ?_⟩
  · cases f <;> decide
  · simp only [isByte, Bool.and_eq_false_iff, decide_eq_false_iff_not]
    omega

/-- Settles O25: the result is the sum of its bytes, which are those of X0 with 0 and 2 exchanged. -/
theorem swaprbExchangesRedAndBlue : Obligations.SwaprbExchangesRedAndBlue := by
  intro c r
  refine ⟨by decide, ?_⟩
  have hbytes := toNat_eq_bytes (swaprbWord r.x0)
  simp only [byte32_swaprbWord, Nat.reduceLT, swaprbByte] at hbytes
  exact hbytes ▸ givesInt_swaprb c r

/-- Settles O26. -/
theorem ext565ExtractsOneChannel : Obligations.Ext565ExtractsOneChannel := by
  intro c r
  exact ⟨by decide, by decide, by decide, ⟨.alphaOf565, by decide⟩, givesInt_ext565 c (by decide) r,
    givesInt_ext565 c (by decide) r, givesInt_ext565 c (by decide) r⟩

/-- Settles O27: the `require` is of X1, X2 and X3 alone. -/
theorem pack565PacksThreeChannels : Obligations.Pack565PacksThreeChannels := by
  intro c r
  refine ⟨by decide, fun ⟨h1, h2, h3⟩ => givesInt_pack565 c h1 h2 h3,
    fun h => givesViolation_of_require rfl ?_⟩
  simp only [isNarrow, Bool.and_eq_false_iff, decide_eq_false_iff_not]
  omega

/-- Settles O28. -/
theorem ext4444ExtractsOneChannel : Obligations.Ext4444ExtractsOneChannel := by
  intro c ch r
  refine ⟨?_, givesInt_ext4444 c ch r⟩
  cases ch <;> decide

/-- Settles O29: the `require` holds exactly when all four channels are nibbles. -/
theorem pack4444PacksFourChannels : Obligations.Pack4444PacksFourChannels := by
  intro c r
  refine ⟨by decide, fun ⟨h0, h1, h2, h3⟩ => givesInt_pack4444 c h0 h1 h2 h3,
    fun h => givesViolation_of_require rfl ?_⟩
  simp only [isNarrow, Bool.and_eq_false_iff, decide_eq_false_iff_not]
  omega

end Sys2Proof.Machine
end

section
/-! SUPPORT. Y of the format commands on integer operands, and the channels read back from a packed color
(41_format.md R130 to R132). -/

namespace Sys2Proof.Machine

open Sys2Proof.Statements

/-- A value within a bound below 2^32 is put on a bus as it is (R21). -/
theorem toBus_toNat_of_le {v m : Nat} (h : v ≤ m) (hm : m < 2 ^ 32 := by decide) : (toBus v).toNat = v :=
  toBus_toNat (by omega)

theorem intResult_ext32 (c : Straps) (f : Fmt) (ch : Chan) (p : Nat) :
    intResult c (.ext32 f ch) p 0 0 0 = some (chan32 c f ch (toBus p)) :=
  intResult_of_givesInt (givesInt_ext32 c f ch _)

theorem intResult_swaprb (c : Straps) (p : Nat) :
    intResult c .swaprb p 0 0 0 = some (swaprbWord (toBus p)).toNat :=
  intResult_of_givesInt (givesInt_swaprb c _)

theorem intResult_ext565 (c : Straps) {ch : Chan} (hch : ch ≠ .a) (p : Nat) :
    intResult c (.ext565 ch) p 0 0 0 = some ((toBus p).extractLsb' (pos565 ch).1 (pos565 ch).2).toNat :=
  intResult_of_givesInt (givesInt_ext565 c hch _)

theorem intResult_ext4444 (c : Straps) (ch : Chan) (p : Nat) :
    intResult c (.ext4444 ch) p 0 0 0 = some ((toBus p).extractLsb' (lowBit4444 c ch) 4).toNat :=
  intResult_of_givesInt (givesInt_ext4444 c ch _)

section
variable {a r g b : Nat}

theorem intResult_pack32 (c : Straps) (f : Fmt) (ha : a ≤ 255) (hr : r ≤ 255) (hg : g ≤ 255)
    (hb : b ≤ 255) : intResult c (.pack32 f) a r g b = some (color32 c f a r g b) := by
  have hgives := givesInt_pack32 c f (r := intRequest (.pack32 f) a r g b)
  apply intResult_of_givesInt
  simpa [toBus_toNat_of_le ha, toBus_toNat_of_le hr, toBus_toNat_of_le hg, toBus_toNat_of_le hb,
    ha, hr, hg, hb] using hgives

theorem intResult_pack565 (c : Straps) (x : Nat) (hr : r ≤ 31) (hg : g ≤ 63) (hb : b ≤ 31) :
    intResult c .pack565 x r g b = some (r * 2048 + g * 32 + b) := by
  have hgives := givesInt_pack565 c (r := intRequest .pack565 x r g b)
  apply intResult_of_givesInt
  simpa [toBus_toNat_of_le hr, toBus_toNat_of_le hg, toBus_toNat_of_le hb, hr, hg, hb] using hgives

theorem intResult_pack4444 (c : Straps) (ha : a ≤ 15) (hr : r ≤ 15) (hg : g ≤ 15) (hb : b ≤ 15) :
    intResult c .pack4444 a r g b = some (color4444 c a r g b) := by
  have hgives := givesInt_pack4444 c (r := intRequest .pack4444 a r g b)
  apply intResult_of_givesInt
  simpa [toBus_toNat_of_le ha, toBus_toNat_of_le hr, toBus_toNat_of_le hg, toBus_toNat_of_le hb,
    ha, hr, hg, hb] using hgives

theorem ext32_of_color32 (c : Straps) (f : Fmt) (ha : a ≤ 255) (hr : r ≤ 255) (hg : g ≤ 255)
    (hb : b ≤ 255) (ch : Chan) :
    intResult c (.ext32 f ch) (color32 c f a r g b) 0 0 0 = some (channelValue a r g b ch) := by
  rw [intResult_ext32, chan32_color32 c f ha hr hg hb]

theorem ext565_of_sum (c : Straps) (hr : r ≤ 31) (hg : g ≤ 63) (hb : b ≤ 31) {ch : Chan} (hch : ch ≠ .a) :
    intResult c (.ext565 ch) (r * 2048 + g * 32 + b) 0 0 0 = some (channelValue 0 r g b ch) := by
  have hsum : (toBus (r * 2048 + g * 32 + b)).toNat = r * 2048 + g * 32 + b := toBus_toNat (by omega)
  rw [intResult_ext565 c hch, BitVec.extractLsb'_toNat, hsum, Nat.shiftRight_eq_div_pow]
  cases ch with
  | a => exact absurd rfl hch
  | r | g | b => simp [pos565, channelValue]; omega

theorem ext4444_of_color4444 (c : Straps) (ha : a ≤ 15) (hr : r ≤ 15) (hg : g ≤ 15) (hb : b ≤ 15)
    (ch : Chan) :
    intResult c (.ext4444 ch) (color4444 c a r g b) 0 0 0 = some (channelValue a r g b ch) := by
  have hlt := color4444_lt c ha hr hg hb
  have hcolor : (toBus (color4444 c a r g b)).toNat = color4444 c a r g b := toBus_toNat (by omega)
  rw [intResult_ext4444, BitVec.extractLsb'_toNat, hcolor, Nat.shiftRight_eq_div_pow]
  unfold color4444 lowBit4444
  cases c.layout4444 <;> cases ch <;> simp [channelValue] <;> omega

end

/-- SWAPRB is its own inverse (R131). -/
theorem swaprbWord_swaprbWord (x : Word) : swaprbWord (swaprbWord x) = x := by
  apply BitVec.eq_of_toNat_eq
  rw [toNat_eq_bytes, toNat_eq_bytes x]
  simp [byte32_swaprbWord, swaprbByte]

/-- The channels of a word in variant B are those of its SWAPRB in variant A (R132). -/
theorem chan32_argb_swaprbWord (c : Straps) (ch : Chan) (x : Word) :
    chan32 c .argb ch (swaprbWord x) = chan32 c .abgr ch x := by
  cases ch with
  | a => exact byte32_swaprbWord x (i := 3) (by decide)
  | r => exact byte32_swaprbWord x (i := 2) (by decide)
  | g => exact byte32_swaprbWord x (i := 1) (by decide)
  | b => exact byte32_swaprbWord x (i := 0) (by decide)

/-- The channels of a word in variant A are those of its SWAPRB in variant B (R132). -/
theorem chan32_abgr_swaprbWord (c : Straps) (ch : Chan) (x : Word) :
    chan32 c .abgr ch (swaprbWord x) = chan32 c .argb ch x := by
  rw [← chan32_argb_swaprbWord, swaprbWord_swaprbWord]

/-- A word is the variant B color of its variant B channels (R111). -/
theorem toNat_eq_color32_abgr (c : Straps) (x : Word) :
    x.toNat = color32 c .abgr (chan32 c .abgr .a x) (chan32 c .abgr .r x) (chan32 c .abgr .g x)
      (chan32 c .abgr .b x) :=
  toNat_eq_bytes x

theorem toBus_toNat_self (x : Word) : toBus x.toNat = x := by
  rw [toBus, BitVec.ofNat_toNat, BitVec.setWidth_eq]

end Sys2Proof.Machine
end

section
/-! The statements of 41_format.md on packing, extracting and SWAPRB together. -/

namespace Sys2Proof.Machine

open Sys2Proof.Statements

/-- Settles O30, a format at a time. -/
theorem packThenExtractRecoversTheChannels : Obligations.PackThenExtractRecoversTheChannels := by
  intro c
  refine ⟨fun f a r g b ha hr hg hb => ?_, fun x r g b hr hg hb => ?_, fun a r g b ha hr hg hb => ?_⟩
  · have hext := ext32_of_color32 c f ha hr hg hb
    exact ⟨_, intResult_pack32 c f ha hr hg hb, hext .a, hext .r, hext .g, hext .b⟩
  · have hext {ch : Chan} (hch : ch ≠ .a) := ext565_of_sum c hr hg hb hch
    exact ⟨_, intResult_pack565 c x hr hg hb, hext (by decide), hext (by decide), hext (by decide)⟩
  · have hext := ext4444_of_color4444 c ha hr hg hb
    exact ⟨_, intResult_pack4444 c ha hr hg hb, hext .a, hext .r, hext .g, hext .b⟩

/-- Settles O31: a variant A word packed from channels has, once swapped, those channels in variant B, so it is
the variant B word packed from them. -/
theorem swaprbConvertsBetweenTheVariants : Obligations.SwaprbConvertsBetweenTheVariants := by
  intro c
  refine ⟨fun p hp => ⟨_, intResult_swaprb c p, ?_, fun ch => ⟨?_, ?_⟩⟩, fun a r g b ha hr hg hb => ?_⟩
  · rw [intResult_swaprb, toBus_toNat_self, swaprbWord_swaprbWord, toBus_toNat hp]
  · rw [intResult_ext32, intResult_ext32, toBus_toNat_self, chan32_abgr_swaprbWord]
  · rw [intResult_ext32, intResult_ext32, toBus_toNat_self, chan32_argb_swaprbWord]
  · refine ⟨_, _, intResult_pack32 c .argb ha hr hg hb, intResult_swaprb c _, ?_⟩
    have hchan := chan32_color32 c .argb ha hr hg hb
    rw [intResult_pack32 c .abgr ha hr hg hb, toNat_eq_color32_abgr c]
    simp only [chan32_abgr_swaprbWord, hchan, channelValue]

end Sys2Proof.Machine
end

section
/-! SUPPORT. WIDEN and NARROW by place values (42_precision.md R150 to R154): the model's shifts and OR are the products
and divisions that the statements write, and what follows of the two together. -/

namespace Sys2Proof.Machine

open Sys2Proof.Statements

@[simp] theorem widthBits_eq_bitsOf (w : Width) : widthBits w = bitsOf w := by
  cases w <;> rfl

/-- The replicated bits of a narrow value fit into the low bits that its shift leaves free (R150). -/
theorem replicatedBits_lt (w : Width) {n : Nat} (hn : n < 2 ^ bitsOf w) :
    n / 2 ^ (2 * bitsOf w - 8) < 2 ^ (8 - bitsOf w) := by
  cases w <;> simp only [bitsOf] at hn ⊢ <;> omega

/-- The two parts of a widened value do not overlap and stay within a byte, so OR is a sum and the mask removes
nothing (R150). -/
theorem widenValue_eq (w : Width) {n : Nat} (hn : n < 2 ^ bitsOf w) :
    widenValue (bitsOf w) n = n * 2 ^ (8 - bitsOf w) + n / 2 ^ (2 * bitsOf w - 8) := by
  have hlow := replicatedBits_lt w hn
  rw [widenValue, Nat.shiftRight_eq_div_pow, shiftLeft_or_eq n hlow]
  apply Nat.mod_eq_of_lt
  cases w <;> simp only [bitsOf] at hn hlow ⊢ <;> omega

theorem widenValue_le (w n : Nat) : widenValue w n ≤ 255 :=
  Nat.le_of_lt_succ (Nat.mod_lt _ (by decide))

theorem narrowValue_eq (w v : Nat) : narrowValue w v = v / 2 ^ (8 - w) :=
  Nat.shiftRight_eq_div_pow v (8 - w)

theorem narrowValue_le (w : Nat) {v : Nat} (hv : v ≤ 255) : narrowValue w v ≤ 255 :=
  (narrowValue_eq w v ▸ Nat.div_le_self v _).trans hv

theorem narrowValue_lt (w : Width) {v : Nat} (hv : v ≤ 255) : narrowValue (bitsOf w) v < 2 ^ bitsOf w := by
  rw [narrowValue_eq]
  cases w <;> simp only [bitsOf] <;> omega

/-- Truncation drops the replicated bits and nothing else (R152). -/
theorem narrowValue_widenValue (w : Width) {n : Nat} (hn : n < 2 ^ bitsOf w) :
    narrowValue (bitsOf w) (widenValue (bitsOf w) n) = n := by
  rw [narrowValue_eq, widenValue_eq w hn, Nat.mul_comm, Nat.mul_add_div (Nat.two_pow_pos _),
    Nat.div_eq_of_lt (replicatedBits_lt w hn), Nat.add_zero]

/-- The minimum widens to the minimum (R154). -/
theorem widenValue_zero (w : Width) : widenValue (bitsOf w) 0 = 0 := by
  cases w <;> rfl

/-- The maximum widens to the maximum (R154). -/
theorem widenValue_allOnes (w : Width) : widenValue (bitsOf w) (2 ^ bitsOf w - 1) = 255 := by
  cases w <;> rfl

/-- A byte narrowed and widened back (R153). -/
def requantized (w : Width) (v : Nat) : Nat := widenValue (bitsOf w) (narrowValue (bitsOf w) v)

/-- A byte and its requantized value have the same high bits, so they differ in the low `8 - w` bits alone (R153). -/
theorem requantized_div (w : Width) {v : Nat} (hv : v ≤ 255) :
    requantized w v / 2 ^ (8 - bitsOf w) = v / 2 ^ (8 - bitsOf w) := by
  simpa only [requantized, narrowValue_eq] using narrowValue_widenValue w (narrowValue_lt w hv)

/-- Two numbers with the same quotient differ by less than the divisor. -/
theorem le_add_of_div_eq {m u v : Nat} (hm : 0 < m) (h : u / m = v / m) : u ≤ v + (m - 1) := by
  have hu := Nat.div_add_mod u m
  have hv := Nat.div_add_mod v m
  have hlt := Nat.mod_lt u hm
  rw [h] at hu
  omega

/-- The largest byte that narrows to 0 comes back as 0 (R153). -/
theorem requantized_of_step (w : Width) : requantized w (2 ^ (8 - bitsOf w) - 1) = 0 := by
  cases w <;> decide

/-- The bytes that come back unchanged are the values WIDEN gives (R153). -/
theorem requantized_eq_self_iff (w : Width) {v : Nat} (hv : v ≤ 255) :
    requantized w v = v ↔ ∃ n, n < 2 ^ bitsOf w ∧ widenValue (bitsOf w) n = v := by
  constructor
  · exact fun h => ⟨_, narrowValue_lt w hv, h⟩
  · rintro ⟨n, hn, rfl⟩
    rw [requantized, narrowValue_widenValue w hn]

/-- WIDEN is injective, for NARROW takes it back (R152). -/
theorem nodup_map_widenValue (w : Width) :
    ((List.range (2 ^ bitsOf w)).map (widenValue (bitsOf w))).Nodup := by
  refine List.Nodup.map_on (fun m hm n hn h => ?_) List.nodup_range
  rw [← narrowValue_widenValue w (List.mem_range.mp hm), h, narrowValue_widenValue w (List.mem_range.mp hn)]

/-- The bytes that come back unchanged are, up to order, the values WIDEN gives (R153). -/
theorem filter_requantized_perm (w : Width) :
    ((List.range 256).filter fun v => requantized w v == v).Perm
      ((List.range (2 ^ bitsOf w)).map (widenValue (bitsOf w))) := by
  refine (List.perm_ext_iff_of_nodup (List.nodup_range.filter _) (nodup_map_widenValue w)).mpr fun v => ?_
  simp only [List.mem_filter, List.mem_map, List.mem_range, beq_iff_eq]
  constructor
  · rintro ⟨hv, h⟩
    exact (requantized_eq_self_iff w (Nat.le_of_lt_succ hv)).mp h
  · rintro ⟨n, hn, rfl⟩
    have hle := widenValue_le (bitsOf w) n
    exact ⟨Nat.lt_succ_of_le hle, (requantized_eq_self_iff w hle).mpr ⟨n, hn, rfl⟩⟩

end Sys2Proof.Machine
end

section
/-! SUPPORT. What WIDEN and NARROW give (42_precision.md R150, R151), in every state and on integer operands alone. -/

namespace Sys2Proof.Machine

open Sys2Proof.Statements

theorem givesInt_widen (c : Straps) (w : Width) {r : Request} (h : r.x0.toNat < 2 ^ bitsOf w) :
    GivesInt (.widen w) c r (widenValue (bitsOf w) r.x0.toNat) :=
  givesInt_of_require rfl (by simp [isNarrow, h])
    (by rw [widthBits_eq_bitsOf, toBus_toNat_of_le (widenValue_le _ _)])

theorem givesViolation_widen (c : Straps) (w : Width) {r : Request} (h : 2 ^ bitsOf w ≤ r.x0.toNat) :
    GivesViolation (.widen w) c r :=
  givesViolation_of_require rfl (by simp [isNarrow, h])

theorem givesInt_narrow (c : Straps) (w : Width) {r : Request} (h : r.x0.toNat ≤ 255) :
    GivesInt (.narrow w) c r (narrowValue (bitsOf w) r.x0.toNat) :=
  givesInt_of_require rfl (by simp [isByte, h])
    (by rw [widthBits_eq_bitsOf, toBus_toNat_of_le (narrowValue_le _ h)])

theorem givesViolation_narrow (c : Straps) (w : Width) {r : Request} (h : r.x0.toNat > 255) :
    GivesViolation (.narrow w) c r :=
  givesViolation_of_require rfl (by simp [isByte, h])

theorem intResult_widen (c : Straps) (w : Width) {n : Nat} (hn : n < 2 ^ bitsOf w) :
    intResult c (.widen w) n 0 0 0 = some (widenValue (bitsOf w) n) := by
  have hbus : (toBus n).toNat = n := toBus_toNat (by cases w <;> simp only [bitsOf] at hn <;> omega)
  have hgives := givesInt_widen c w (r := intRequest (.widen w) n 0 0 0)
  apply intResult_of_givesInt
  simpa [hbus, hn] using hgives

theorem intResult_narrow (c : Straps) (w : Width) {v : Nat} (hv : v ≤ 255) :
    intResult c (.narrow w) v 0 0 0 = some (narrowValue (bitsOf w) v) := by
  have hgives := givesInt_narrow c w (r := intRequest (.narrow w) v 0 0 0)
  apply intResult_of_givesInt
  simpa [toBus_toNat_of_le hv, hv] using hgives

/-- NARROW, and then WIDEN of what it gave (R153). -/
theorem intResult_narrow_bind_widen (c : Straps) (w : Width) {v : Nat} (hv : v ≤ 255) :
    ((intResult c (.narrow w) v 0 0 0).bind fun n => intResult c (.widen w) n 0 0 0)
      = some (requantized w v) := by
  rw [intResult_narrow c w hv, Option.bind_some, intResult_widen c w (narrowValue_lt w hv), requantized]

end Sys2Proof.Machine
end

section
/-! The statements of 42_precision.md. -/

namespace Sys2Proof.Machine

open Sys2Proof.Statements

/-- Settles O32: the place-value form at each width. -/
theorem widenReplicatesBits : Obligations.WidenReplicatesBits := by
  intro c r
  have hgives (w : Width) (h : r.x0.toNat < 2 ^ bitsOf w) :=
    widenValue_eq w h ▸ givesInt_widen c w h
  refine ⟨by decide, by decide, by decide, ⟨.reservedWidth, by decide⟩, fun h => ?_, hgives .w5, hgives .w6,
    fun w h => givesViolation_widen c w h⟩
  simpa [bitsOf] using hgives .w4 h

/-- Settles O33: a shift right is a division at each width. -/
theorem narrowTruncates : Obligations.NarrowTruncates := by
  intro c r
  have hgives (h : r.x0.toNat ≤ 255) (w : Width) :=
    narrowValue_eq (bitsOf w) r.x0.toNat ▸ givesInt_narrow c w h
  exact ⟨by decide, by decide, by decide, ⟨.reservedWidth, by decide⟩,
    fun h => ⟨hgives h .w4, hgives h .w5, hgives h .w6⟩, fun h w => givesViolation_narrow c w h⟩

/-- Settles O34. -/
theorem narrowOfWidenIsExact : Obligations.NarrowOfWidenIsExact := by
  intro c w
  refine ⟨fun n hn => ⟨_, intResult_widen c w hn, ?_⟩, ?_, ?_⟩
  · rw [intResult_narrow c w (widenValue_le _ _), narrowValue_widenValue w hn]
  · rw [intResult_widen c w (Nat.two_pow_pos _), widenValue_zero]
  · rw [intResult_widen c w (Nat.sub_one_lt_of_lt (Nat.two_pow_pos _)), widenValue_allOnes]

/-- Settles O35: the way back is `requantized`, which keeps the high bits of a byte and fixes the values of WIDEN. -/
theorem widenOfNarrowIsWithinAStep : Obligations.WidenOfNarrowIsWithinAStep := by
  intro c w back
  have hback {v : Nat} (hv : v ≤ 255) : back v = some (requantized w v) :=
    intResult_narrow_bind_widen c w hv
  refine ⟨fun v hv => ?_, ?_, ?_, ?_, ?_, fun v hv => ?_⟩
  · have hdiv := requantized_div w hv
    exact ⟨_, hback hv, le_add_of_div_eq (Nat.two_pow_pos _) hdiv,
      le_add_of_div_eq (Nat.two_pow_pos _) hdiv.symm⟩
  · have hle : 2 ^ (8 - bitsOf w) - 1 ≤ 255 := by cases w <;> decide
    exact ⟨_, 0, hle, by rw [hback hle, requantized_of_step], .inr (Nat.zero_add _).symm⟩
  · rintro rfl
    exact ⟨hback (by decide), hback (by decide)⟩
  · rintro rfl
    exact hback (by decide)
  · have hsame : ((List.range 256).filter fun v => back v == some v)
        = (List.range 256).filter fun v => requantized w v == v := by
      refine List.filter_congr fun v hv => ?_
      rw [hback (Nat.le_of_lt_succ (List.mem_range.mp hv)), Option.some_beq_some]
    rw [hsame, (filter_requantized_perm w).length_eq, List.length_map, List.length_range]
  · rw [hback hv, Option.some_inj, requantized_eq_self_iff w hv]
    refine exists_congr fun n => and_congr_right fun hn => ?_
    rw [intResult_widen c w hn, Option.some_inj]

end Sys2Proof.Machine
end

section
/-! SUPPORT. The byte blend in its second form (43_blend.md R171), and its range, ends and monotonicity (R172). -/

namespace Sys2Proof.Machine

open Sys2Proof.Statements

@[simp] theorem biasValue_eq_biasOf (c : Straps) : biasValue c.blendBias = biasOf c := by
  unfold biasOf
  cases c.blendBias <;> rfl

theorem biasOf_le (c : Straps) : biasOf c ≤ 128 := by
  unfold biasOf
  split_ifs <;> decide

/-- The weighted sum of two bytes, of which the byte blend is the high byte (R171, R178). -/
def laneSum (bias s d k : Nat) : Nat := s * k + d * (256 - k) + bias

/-- A weighted sum of words is the weighted sum of their values, up to the width (log entry 19). -/
theorem weightedSum_toNat {w : Nat} (s d : BitVec w) (k bias : Nat) :
    (s * BitVec.ofNat w k + d * BitVec.ofNat w (256 - k) + BitVec.ofNat w bias).toNat
      = laneSum bias s.toNat d.toNat k % 2 ^ w := by
  simp [laneSum]

/-- The weighted sum of two lanes is the two lanes' sums, each in its own lane (R178). -/
theorem laneSum_lanes (m b0 b1 s0 s1 d0 d1 k : Nat) :
    laneSum (b0 + b1 * m) (s0 + s1 * m) (d0 + d1 * m) k
      = laneSum b0 s0 d0 k + laneSum b1 s1 d1 k * m := by
  unfold laneSum
  ring

/-- The sum of a lane fits its 16 bits (R180). -/
theorem laneSum_le {bias s d k : Nat} (hbias : bias ≤ 128) (hs : s ≤ 255) (hd : d ≤ 255) (hk : k ≤ 256) :
    laneSum bias s d k ≤ 65408 := by
  have hsk : s * k ≤ 255 * k := Nat.mul_le_mul_right k hs
  have hdk : d * (256 - k) ≤ 255 * (256 - k) := Nat.mul_le_mul_right _ hd
  unfold laneSum
  omega

/-- The two forms of the byte blend agree: 256 d moved into the floor (R171). -/
theorem blend_eq_laneSum_div (bias s d : Nat) {k : Nat} (hk : k ≤ 256) :
    blend bias s d k = laneSum bias s d k / 256 := by
  have hsum : ((s : Int) - d) * k + bias + d * 2 ^ 8 = (laneSum bias s d k : Nat) := by
    unfold laneSum
    push_cast [hk]
    ring
  rw [blend, asr, Int.add_comm, ← Int.add_mul_ediv_right _ _ (by decide), hsum]
  rfl

theorem blend_eq_mix (c : Straps) (s d : Nat) {k : Nat} (hk : k ≤ 256) :
    blend (biasOf c) s d k = mix c s d k :=
  blend_eq_laneSum_div _ s d hk

theorem mix_mono (c : Straps) (k : Nat) {s s' d d' : Nat} (hs : s ≤ s') (hd : d ≤ d') :
    mix c s d k ≤ mix c s' d' k := by
  unfold mix
  gcongr

/-- Two equal bytes blend to themselves. -/
theorem mix_self (c : Straps) (v : Nat) {k : Nat} (hk : k ≤ 256) : mix c v v k = v := by
  have hbias := biasOf_le c
  have hsum : v * k + v * (256 - k) = v * 256 := by rw [← Nat.mul_add, Nat.add_sub_cancel' hk]
  rw [mix, hsum]
  omega

theorem mix_zero (c : Straps) (s d : Nat) : mix c s d 0 = d := by
  have hbias := biasOf_le c
  unfold mix
  omega

theorem mix_256 (c : Straps) (s d : Nat) : mix c s d 256 = s := by
  have hbias := biasOf_le c
  unfold mix
  omega

/-- Between its operands, because it is monotone and keeps equal bytes (R172). -/
theorem min_le_mix (c : Straps) (s d : Nat) {k : Nat} (hk : k ≤ 256) : min s d ≤ mix c s d k :=
  calc min s d
    _ = mix c (min s d) (min s d) k := (mix_self c _ hk).symm
    _ ≤ mix c s d k := mix_mono c k (min_le_left s d) (min_le_right s d)

theorem mix_le_max (c : Straps) (s d : Nat) {k : Nat} (hk : k ≤ 256) : mix c s d k ≤ max s d :=
  calc mix c s d k
    _ ≤ mix c (max s d) (max s d) k := mix_mono c k (le_max_left s d) (le_max_right s d)
    _ = max s d := mix_self c _ hk

theorem mix_le {s d k m : Nat} (c : Straps) (hs : s ≤ m) (hd : d ≤ m) (hk : k ≤ 256) : mix c s d k ≤ m :=
  (mix_le_max c s d hk).trans (max_le hs hd)

/-- The corner cases of the weight conversion are its closed form (R174). -/
theorem scaled_eq {w : Nat} (hw : w ≤ 255) : scaled w = w + w / 128 := by
  unfold scaled
  split_ifs <;> omega

theorem scale256Of_eq (w : Nat) : scale256Of w = w + w / 128 := by
  rw [scale256Of, Nat.shiftRight_eq_div_pow]

theorem scaled_le {w : Nat} (hw : w ≤ 255) : scaled w ≤ 256 := by
  rw [scaled_eq hw]
  omega

end Sys2Proof.Machine
end

section
/-! SUPPORT. The bytes of a word, and the lanes of the splay words (43_blend.md R175, R178 to R180). -/

namespace Sys2Proof.Machine

open Sys2Proof.Statements

theorem byteAt_eq_byte32 (x : Word) (i : Nat) : byteAt x i = byte32 x i := by
  rw [byteAt, byte32, BitVec.extractLsb'_toNat, field]

theorem byte32_le (x : Word) (i : Nat) : byte32 x i ≤ 255 :=
  Nat.le_of_lt_succ (x.extractLsb' (8 * i) 8).isLt

/-- Four bytes at their places in a word. -/
def fourBytes (b0 b1 b2 b3 : Nat) : Nat := b0 + b1 * 2 ^ 8 + b2 * 2 ^ 16 + b3 * 2 ^ 24

theorem toNat_eq_fourBytes (x : Word) :
    x.toNat = fourBytes (byte32 x 0) (byte32 x 1) (byte32 x 2) (byte32 x 3) := by
  rw [toNat_eq_bytes, fourBytes]
  ring

section
variable {b0 b1 b2 b3 : Nat}

theorem fourBytes_lt (h0 : b0 ≤ 255) (h1 : b1 ≤ 255) (h2 : b2 ≤ 255) (h3 : b3 ≤ 255) :
    fourBytes b0 b1 b2 b3 < 2 ^ 32 := by
  unfold fourBytes
  omega

/-- The bytes of a word are the four it is made of. -/
theorem byte32_of_toNat_eq {x : Word} (h0 : b0 ≤ 255) (h1 : b1 ≤ 255) (h2 : b2 ≤ 255) (h3 : b3 ≤ 255)
    (hx : x.toNat = fourBytes b0 b1 b2 b3) :
    byte32 x 0 = b0 ∧ byte32 x 1 = b1 ∧ byte32 x 2 = b2 ∧ byte32 x 3 = b3 := by
  simp only [byte32, BitVec.extractLsb'_toNat, hx, fourBytes, Nat.shiftRight_eq_div_pow]
  omega

end

/-- Bytes 0 and 2 of a word, each in a 16-bit lane (R178). -/
def evenBytes (x : Word) : Word := x &&& 0x00FF00FF

/-- Bytes 1 and 3 of a word, each in a 16-bit lane (R178). -/
def oddBytes (x : Word) : Word := (x >>> 8) &&& 0x00FF00FF

/-- Two bytes in the 16-bit lanes of a word. -/
theorem byteLanes_toNat (b b' : BitVec 8) :
    (b'.setWidth 32 <<< 16 ||| b.setWidth 32).toNat = b.toNat + b'.toNat * 2 ^ 16 := by
  have hb : b.toNat < 2 ^ 8 := b.isLt
  have hb' : b'.toNat < 2 ^ 8 := b'.isLt
  have hshift : b'.toNat <<< 16 % 2 ^ 32 = b'.toNat <<< 16 := by
    rw [Nat.shiftLeft_eq]
    omega
  rw [BitVec.toNat_or, BitVec.toNat_shiftLeft, BitVec.toNat_setWidth_of_le (by decide),
    BitVec.toNat_setWidth_of_le (by decide), hshift, shiftLeft_or_eq _ (by omega), Nat.add_comm]

theorem evenBytes_toNat (x : Word) : (evenBytes x).toNat = byte32 x 0 + byte32 x 2 * 2 ^ 16 := by
  have hbits : evenBytes x
      = (x.extractLsb' 16 8).setWidth 32 <<< 16 ||| (x.extractLsb' 0 8).setWidth 32 := by
    refine BitVec.eq_of_getLsbD_eq fun i hi => ?_
    interval_cases i <;> simp [evenBytes]
  rw [hbits, byteLanes_toNat, byte32, byte32]

theorem oddBytes_toNat (x : Word) : (oddBytes x).toNat = byte32 x 1 + byte32 x 3 * 2 ^ 16 := by
  have hbits : oddBytes x
      = (x.extractLsb' 24 8).setWidth 32 <<< 16 ||| (x.extractLsb' 8 8).setWidth 32 := by
    refine BitVec.eq_of_getLsbD_eq fun i hi => ?_
    interval_cases i <;> simp [oddBytes]
  rw [hbits, byteLanes_toNat, byte32, byte32]

/-- Two 32-bit words side by side. -/
def wordPair (lo hi : Word) : BitVec 64 := hi.setWidth 64 <<< 32 ||| lo.setWidth 64

theorem wordPair_toNat (lo hi : Word) : (wordPair lo hi).toNat = lo.toNat + hi.toNat * 2 ^ 32 := by
  have hhi : hi.toNat < 2 ^ 32 := hi.isLt
  have hshift : hi.toNat <<< 32 % 2 ^ 64 = hi.toNat <<< 32 := by
    rw [Nat.shiftLeft_eq]
    omega
  rw [wordPair, BitVec.toNat_or, BitVec.toNat_shiftLeft, BitVec.toNat_setWidth_of_le (by decide),
    BitVec.toNat_setWidth_of_le (by decide), hshift, shiftLeft_or_eq _ lo.isLt, Nat.add_comm]

/-- The 64-bit splay of a word is its two 32-bit splays side by side (R179). -/
theorem splay64_eq_wordPair (x : Word) : splay64 x = wordPair (evenBytes x) (oddBytes x) := by
  refine BitVec.eq_of_getLsbD_eq fun i hi => ?_
  interval_cases i <;> simp [splay64, wordPair, evenBytes, oddBytes]

/-- The weighted sum of byte `i` of two words (R180). -/
def byteSum (bias : Nat) (s d : Word) (k i : Nat) : Nat := laneSum bias (byte32 s i) (byte32 d i) k

theorem laneSum_evenBytes (bias : Nat) (s d : Word) (k : Nat) :
    laneSum (bias * 0x00010001) (evenBytes s).toNat (evenBytes d).toNat k
      = byteSum bias s d k 0 + byteSum bias s d k 2 * 2 ^ 16 := by
  have hbias : bias * 0x00010001 = bias + bias * 2 ^ 16 := by omega
  rw [hbias, evenBytes_toNat, evenBytes_toNat, laneSum_lanes, byteSum, byteSum]

theorem laneSum_oddBytes (bias : Nat) (s d : Word) (k : Nat) :
    laneSum (bias * 0x00010001) (oddBytes s).toNat (oddBytes d).toNat k
      = byteSum bias s d k 1 + byteSum bias s d k 3 * 2 ^ 16 := by
  have hbias : bias * 0x00010001 = bias + bias * 2 ^ 16 := by omega
  rw [hbias, oddBytes_toNat, oddBytes_toNat, laneSum_lanes, byteSum, byteSum]

section
variable {bias k : Nat} (s d : Word) (hbias : bias ≤ 128) (hk : k ≤ 256)
include hbias hk

theorem byteSum_le (i : Nat) : byteSum bias s d k i ≤ 65408 :=
  laneSum_le hbias (byte32_le s i) (byte32_le d i) hk

/-- No lane carries into the next, so the word holds both sums (R180). -/
theorem splayLanes32_evenBytes_toNat :
    (splayLanes32 bias (evenBytes s) (evenBytes d) k).toNat
      = byteSum bias s d k 0 + byteSum bias s d k 2 * 2 ^ 16 := by
  have h0 := byteSum_le s d hbias hk 0
  have h2 := byteSum_le s d hbias hk 2
  rw [splayLanes32, weightedSum_toNat, laneSum_evenBytes, Nat.mod_eq_of_lt (by omega)]

theorem splayLanes32_oddBytes_toNat :
    (splayLanes32 bias (oddBytes s) (oddBytes d) k).toNat
      = byteSum bias s d k 1 + byteSum bias s d k 3 * 2 ^ 16 := by
  have h1 := byteSum_le s d hbias hk 1
  have h3 := byteSum_le s d hbias hk 3
  rw [splayLanes32, weightedSum_toNat, laneSum_oddBytes, Nat.mod_eq_of_lt (by omega)]

/-- The 64-bit accumulator is the two 32-bit ones side by side (R179). -/
theorem splayLanes64_eq_wordPair :
    splayLanes64 bias (splay64 s) (splay64 d) k
      = wordPair (splayLanes32 bias (evenBytes s) (evenBytes d) k)
          (splayLanes32 bias (oddBytes s) (oddBytes d) k) := by
  have hpairs : laneSum (bias * 0x0001000100010001) (splay64 s).toNat (splay64 d).toNat k
      = (splayLanes32 bias (evenBytes s) (evenBytes d) k).toNat
        + (splayLanes32 bias (oddBytes s) (oddBytes d) k).toNat * 2 ^ 32 := by
    have hrep : bias * 0x0001000100010001 = bias * 0x00010001 + bias * 0x00010001 * 2 ^ 32 := by omega
    rw [hrep, splay64_eq_wordPair, splay64_eq_wordPair, wordPair_toNat, wordPair_toNat, laneSum_lanes,
      laneSum_evenBytes, laneSum_oddBytes, splayLanes32_evenBytes_toNat s d hbias hk,
      splayLanes32_oddBytes_toNat s d hbias hk]
  apply BitVec.eq_of_toNat_eq
  rw [splayLanes64, weightedSum_toNat, hpairs, ← wordPair_toNat, Nat.mod_eq_of_lt (BitVec.isLt _)]

end

end Sys2Proof.Machine
end

section
/-! SUPPORT. The three datapaths give one word (43_blend.md R175 to R179). -/

namespace Sys2Proof.Machine

open Sys2Proof.Statements

/-- The high bytes of the lanes of two splay words, put back in the places of a color (R178). -/
def highBytes (lo hi : Word) : Word := (hi &&& 0xFF00FF00) ||| ((lo &&& 0xFF00FF00) >>> 8)

theorem byte32_highBytes (lo hi : Word) :
    byte32 (highBytes lo hi) 0 = byte32 lo 1 ∧ byte32 (highBytes lo hi) 1 = byte32 hi 1 ∧
    byte32 (highBytes lo hi) 2 = byte32 lo 3 ∧ byte32 (highBytes lo hi) 3 = byte32 hi 3 := by
  refine ⟨?_, ?_, ?_, ?_⟩ <;>
    refine congrArg BitVec.toNat (BitVec.eq_of_getLsbD_eq fun k hk => ?_) <;>
    interval_cases k <;> simp [highBytes]

/-- The high byte of each 16-bit lane of a word. -/
theorem byte32_of_lanes {x : Word} {l0 l1 : Nat} (h0 : l0 < 2 ^ 16)
    (hx : x.toNat = l0 + l1 * 2 ^ 16) : byte32 x 1 = l0 / 256 ∧ byte32 x 3 = l1 / 256 := by
  simp only [byte32, BitVec.extractLsb'_toNat, hx, Nat.shiftRight_eq_div_pow]
  omega

theorem interpSplay32_eq_highBytes (bias : Nat) (s d : Word) (k : Nat) :
    interpSplay32 bias s d k = highBytes (splayLanes32 bias (evenBytes s) (evenBytes d) k)
      (splayLanes32 bias (oddBytes s) (oddBytes d) k) := rfl

/-- The last step of the 64-bit datapath, on its accumulator (R179). -/
def highBytes64 (acc : BitVec 64) : Word :=
  let m := acc &&& 0xFF00FF00FF00FF00
  (m >>> 8 ||| m >>> 32).setWidth 32

theorem highBytes64_wordPair (lo hi : Word) : highBytes64 (wordPair lo hi) = highBytes lo hi := by
  refine BitVec.eq_of_getLsbD_eq fun i hi => ?_
  interval_cases i <;> simp [highBytes64, wordPair, highBytes]

theorem interpSplay64_eq_interpSplay32 {bias k : Nat} (s d : Word) (hbias : bias ≤ 128) (hk : k ≤ 256) :
    interpSplay64 bias s d k = interpSplay32 bias s d k :=
  calc interpSplay64 bias s d k
    _ = highBytes64 (splayLanes64 bias (splay64 s) (splay64 d) k) := rfl
    _ = interpSplay32 bias s d k := by
      rw [splayLanes64_eq_wordPair s d hbias hk, highBytes64_wordPair, interpSplay32_eq_highBytes]

section
variable (c : Straps) (s d : Word) {k : Nat} (hk : k ≤ 256)
include hk

theorem mix_byte32_le (i : Nat) : mix c (byte32 s i) (byte32 d i) k ≤ 255 :=
  mix_le c (byte32_le s i) (byte32_le d i) hk

theorem mix32_lt : mix32 c s d k < 2 ^ 32 :=
  fourBytes_lt (mix_byte32_le c s d hk 0) (mix_byte32_le c s d hk 1) (mix_byte32_le c s d hk 2)
    (mix_byte32_le c s d hk 3)

/-- The reference datapath is the four byte blends (R175). -/
theorem interpRef_toNat : (interpRef (biasOf c) s d k).toNat = mix32 c s d k := by
  simp only [interpRef, byteAt_eq_byte32, blend_eq_mix c _ _ hk, Nat.shiftLeft_eq]
  exact toBus_toNat (mix32_lt c s d hk)

theorem interpSplay32_toNat : (interpSplay32 (biasOf c) s d k).toNat = mix32 c s d k := by
  have hlt (i : Nat) : byteSum (biasOf c) s d k i < 2 ^ 16 :=
    (byteSum_le s d (biasOf_le c) hk i).trans_lt (by decide)
  obtain ⟨hlo1, hlo3⟩ := byte32_of_lanes (hlt 0) (splayLanes32_evenBytes_toNat s d (biasOf_le c) hk)
  obtain ⟨hhi1, hhi3⟩ := byte32_of_lanes (hlt 1) (splayLanes32_oddBytes_toNat s d (biasOf_le c) hk)
  obtain ⟨h0, h1, h2, h3⟩ := byte32_highBytes (splayLanes32 (biasOf c) (evenBytes s) (evenBytes d) k)
    (splayLanes32 (biasOf c) (oddBytes s) (oddBytes d) k)
  rw [interpSplay32_eq_highBytes, toNat_eq_fourBytes, h0, h1, h2, h3, hlo1, hlo3, hhi1, hhi3]
  rfl

theorem interpSplay32_eq_interpRef :
    interpSplay32 (biasOf c) s d k = interpRef (biasOf c) s d k :=
  BitVec.eq_of_toNat_eq ((interpSplay32_toNat c s d hk).trans (interpRef_toNat c s d hk).symm)

theorem interpSplay64_eq_interpRef :
    interpSplay64 (biasOf c) s d k = interpRef (biasOf c) s d k :=
  (interpSplay64_eq_interpSplay32 s d (biasOf_le c) hk).trans (interpSplay32_eq_interpRef c s d hk)

/-- Whatever datapath BLEND_PATH selects, the word is the reference one (R177). -/
theorem interp_eq_interpRef : interp c s d k = interpRef (biasOf c) s d k := by
  unfold interp
  rw [biasValue_eq_biasOf]
  cases c.blendPath with
  | ref => rfl
  | splay32 => exact interpSplay32_eq_interpRef c s d hk
  | splay64 => exact interpSplay64_eq_interpRef c s d hk

theorem interp_toNat : (interp c s d k).toNat = mix32 c s d k := by
  rw [interp_eq_interpRef c s d hk, interpRef_toNat c s d hk]

end

/-- The bytes of the interpolated word are the byte blends. -/
theorem byte32_of_toNat_eq_mix32 (c : Straps) (s d : Word) {k : Nat} (hk : k ≤ 256) {x : Word}
    (hx : x.toNat = mix32 c s d k) :
    byte32 x 0 = mix c (byte32 s 0) (byte32 d 0) k ∧ byte32 x 1 = mix c (byte32 s 1) (byte32 d 1) k ∧
    byte32 x 2 = mix c (byte32 s 2) (byte32 d 2) k ∧ byte32 x 3 = mix c (byte32 s 3) (byte32 d 3) k :=
  byte32_of_toNat_eq (mix_byte32_le c s d hk 0) (mix_byte32_le c s d hk 1) (mix_byte32_le c s d hk 2)
    (mix_byte32_le c s d hk 3) hx

/-- Weight 0 keeps the second word (R182). -/
theorem mix32_zero (c : Straps) (s d : Word) : mix32 c s d 0 = d.toNat := by
  rw [toNat_eq_fourBytes]
  simp only [mix32, mix_zero, fourBytes]

/-- Weight 256 keeps the first (R182). -/
theorem mix32_256 (c : Straps) (s d : Word) : mix32 c s d 256 = s.toNat := by
  rw [toNat_eq_fourBytes]
  simp only [mix32, mix_256, fourBytes]

end Sys2Proof.Machine
end

section
/-! SUPPORT. A channel of src-over and the weighing of LUM (43_blend.md R186 to R191). -/

namespace Sys2Proof.Machine

open Sys2Proof.Statements

theorem msr_eq (a b sh : Nat) :
    msr a b sh = (a * b + 2 ^ (sh - 1) + (a * b + 2 ^ (sh - 1)) / 2 ^ sh) / 2 ^ sh := by
  simp only [msr, Nat.shiftRight_eq_div_pow, Nat.one_shiftLeft]

/-- A destination channel of `n` bits weighs at most what is left of the alpha (R188). -/
theorem msr_le {d n : Nat} (isa : Nat) (hn : 0 < n) (hd : d < 2 ^ n) : msr d isa n ≤ isa := by
  have hpow : 2 ^ n = 2 * 2 ^ (n - 1) := by rw [← Nat.pow_succ', Nat.succ_eq_add_one, Nat.sub_add_cancel hn]
  have hprod : d * isa + isa ≤ 2 ^ n * isa := by
    rw [← Nat.succ_mul]
    exact Nat.mul_le_mul_right isa hd
  have hpos : 0 < 2 ^ (n - 1) := Nat.two_pow_pos _
  have hquot : (d * isa + 2 ^ (n - 1)) / 2 ^ n ≤ isa := by
    refine Nat.le_of_lt_succ (Nat.div_lt_of_lt_mul ?_)
    rw [Nat.mul_succ]
    omega
  rw [msr_eq]
  refine Nat.le_of_lt_succ (Nat.div_lt_of_lt_mul ?_)
  rw [Nat.mul_succ]
  omega

theorem srcoverChannel_eq_overChannel (v d a n : Nat) :
    srcoverChannel v d (255 - a) n = overChannel v d a n := by
  simp only [srcoverChannel, msr_eq, Nat.shiftRight_eq_div_pow, overChannel]

/-- A channel of a premultiplied source composes to a channel that fits its `n` bits (R188). -/
theorem overChannel_lt {v d a n : Nat} (hv : v ≤ a) (ha : a ≤ 255) (hn : 0 < n) (hn8 : n ≤ 8) (hd : d < 2 ^ n) :
    overChannel v d a n < 2 ^ n := by
  have hmsr := msr_le (255 - a) hn hd
  have hsplit : 2 ^ (8 - n) * 2 ^ n = 256 := by rw [← Nat.pow_add, Nat.sub_add_cancel hn8]
  rw [← srcoverChannel_eq_overChannel, srcoverChannel, Nat.shiftRight_eq_div_pow]
  refine Nat.div_lt_of_lt_mul ?_
  omega

/-- A transparent source keeps the destination's channel (R188). -/
theorem overChannel_transparent {d : Nat} :
    (d < 2 ^ 5 → overChannel 0 d 0 5 = d) ∧ (d < 2 ^ 6 → overChannel 0 d 0 6 = d) := by
  simp only [overChannel]
  omega

/-- An opaque source replaces the destination's channel (R188). -/
theorem overChannel_opaque (v d : Nat) :
    overChannel v d 255 5 = v / 8 ∧ overChannel v d 255 6 = v / 4 := by
  simp [overChannel]

/-- The color SRCOVER16 gives, from source `p` and destination `x` (R187). -/
def srcoverColor (c : Straps) (f : Fmt) (p x : Word) : Nat :=
  overChannel (chan32 c f .r p) (x.extractLsb' 11 5).toNat (chan32 c f .a p) 5 * 2048
    + overChannel (chan32 c f .g p) (x.extractLsb' 5 6).toNat (chan32 c f .a p) 6 * 32
    + overChannel (chan32 c f .b p) (x.extractLsb' 0 5).toNat (chan32 c f .a p) 5

/-- No color channel is above alpha. -/
def Premultiplied (c : Straps) (f : Fmt) (p : Word) : Prop :=
  chan32 c f .r p ≤ chan32 c f .a p ∧ chan32 c f .g p ≤ chan32 c f .a p ∧ chan32 c f .b p ≤ chan32 c f .a p

theorem chan32_le (c : Straps) (f : Fmt) (ch : Chan) (p : Word) : chan32 c f ch p ≤ 255 :=
  Nat.le_of_lt_succ (p.extractLsb' (lowBit c f ch) 8).isLt

theorem field_eq_extractLsb' (x : Word) (lo width : Nat) :
    field x.toNat lo width = (x.extractLsb' lo width).toNat := by
  rw [BitVec.extractLsb'_toNat, field]

/-- The luminance of three bytes (R190). -/
def luminance (r g b : Nat) : Nat := (54 * r + 183 * g + 19 * b) / 256

theorem luminance_mono {r g b r' g' b' : Nat} (hr : r ≤ r') (hg : g ≤ g') (hb : b ≤ b') :
    luminance r g b ≤ luminance r' g' b' := by
  unfold luminance
  gcongr

/-- The weights of LUM sum to 256, so grey keeps its value (R191). -/
theorem luminance_grey (v : Nat) : luminance v v v = v := by
  unfold luminance
  omega

theorem luminance_le {r g b : Nat} (hr : r ≤ 255) (hg : g ≤ 255) (hb : b ≤ 255) : luminance r g b ≤ 255 :=
  (luminance_mono hr hg hb).trans_eq (luminance_grey 255)

end Sys2Proof.Machine
end

section
/-! SUPPORT. What each command of the blending family gives (43_blend.md R173 to R190), in every state and on integer
operands alone. -/

namespace Sys2Proof.Machine

open Sys2Proof.Statements

theorem givesInt_blend8 (c : Straps) {r : Request} (h0 : r.x0.toNat ≤ 255) (h1 : r.x1.toNat ≤ 255)
    (h2 : r.x2.toNat ≤ 256) : GivesInt .blend8 c r (mix c r.x0.toNat r.x1.toNat r.x2.toNat) := by
  refine givesInt_of_require rfl (by simp [isByte, isScale256, h0, h1, h2]) ?_
  rw [biasValue_eq_biasOf, blend_eq_mix c _ _ h2, toBus_toNat_of_le (mix_le c h0 h1 h2)]

theorem givesInt_scale255 (c : Straps) {r : Request} (h : r.x0.toNat ≤ 255) :
    GivesInt .scale255 c r (scaled r.x0.toNat) := by
  refine givesInt_of_require rfl (by simp [isByte, h]) ?_
  rw [scale256Of_eq, ← scaled_eq h, toBus_toNat_of_le (scaled_le h)]

theorem givesInt_interp256 (c : Straps) {r : Request} (h : r.x2.toNat ≤ 256) :
    GivesInt .interp256 c r (mix32 c r.x0 r.x1 r.x2.toNat) :=
  givesInt_of_require rfl (by simp [isScale256, h]) (interp_toNat c r.x0 r.x1 h)

theorem givesInt_interp255 (c : Straps) {r : Request} (h : r.x2.toNat ≤ 255) :
    GivesInt .interp255 c r (mix32 c r.x0 r.x1 (scaled r.x2.toNat)) := by
  refine givesInt_of_require rfl (by simp [isByte, h]) ?_
  rw [scale256Of_eq, ← scaled_eq h, interp_toNat c r.x0 r.x1 (scaled_le h)]

theorem givesInt_srcover16 (c : Straps) (f : Fmt) {r : Request} (h : Premultiplied c f r.x0) :
    GivesInt (.srcover16 f) c r (srcoverColor c f r.x0 r.x1) := by
  obtain ⟨hr, hg, hb⟩ := h
  have ha := chan32_le c f .a r.x0
  have hlr := overChannel_lt hr ha (by decide) (by decide) (r.x1.extractLsb' 11 5).isLt
  have hlg := overChannel_lt hg ha (by decide) (by decide) (r.x1.extractLsb' 5 6).isLt
  have hlb := overChannel_lt hb ha (by decide) (by decide) (r.x1.extractLsb' 0 5).isLt
  refine givesInt_of_require rfl (by simp [get32_eq_chan32, hr, hg, hb]) ?_
  simp only [get32_eq_chan32, field_eq_extractLsb', srcoverChannel_eq_overChannel]
  rw [or_565_eq _ (Nat.le_of_lt_succ hlg) (Nat.le_of_lt_succ hlb), toBus_toNat (by omega), srcoverColor]

theorem givesInt_lum (c : Straps) {r : Request} (h0 : r.x0.toNat ≤ 255) (h1 : r.x1.toNat ≤ 255)
    (h2 : r.x2.toNat ≤ 255) : GivesInt .lum c r (luminance r.x0.toNat r.x1.toNat r.x2.toNat) := by
  refine givesInt_of_require rfl (by simp [isByte, h0, h1, h2]) ?_
  rw [Nat.shiftRight_eq_div_pow]
  exact toBus_toNat_of_le (luminance_le h0 h1 h2)

theorem intResult_blend8 (c : Straps) {s d k : Nat} (hs : s ≤ 255) (hd : d ≤ 255) (hk : k ≤ 256) :
    intResult c .blend8 s d k 0 = some (mix c s d k) := by
  have hgives := givesInt_blend8 c (r := intRequest .blend8 s d k 0)
  apply intResult_of_givesInt
  simpa [toBus_toNat_of_le hs, toBus_toNat_of_le hd, toBus_toNat_of_le hk, hs, hd, hk] using hgives

theorem intResult_interp256 (c : Straps) (s d : Nat) {k : Nat} (hk : k ≤ 256) :
    intResult c .interp256 s d k 0 = some (mix32 c (toBus s) (toBus d) k) := by
  have hgives := givesInt_interp256 c (r := intRequest .interp256 s d k 0)
  apply intResult_of_givesInt
  simpa [toBus_toNat_of_le hk, hk] using hgives

theorem intResult_interp255 (c : Straps) (s d : Nat) {k : Nat} (hk : k ≤ 255) :
    intResult c .interp255 s d k 0 = some (mix32 c (toBus s) (toBus d) (scaled k)) := by
  have hgives := givesInt_interp255 c (r := intRequest .interp255 s d k 0)
  apply intResult_of_givesInt
  simpa [toBus_toNat_of_le hk, hk] using hgives

theorem intResult_srcover16 (c : Straps) (f : Fmt) {p : Nat} (d : Nat) (h : Premultiplied c f (toBus p)) :
    intResult c (.srcover16 f) p d 0 0 = some (srcoverColor c f (toBus p) (toBus d)) :=
  intResult_of_givesInt (givesInt_srcover16 c f h)

theorem intResult_lum (c : Straps) {r g b : Nat} (hr : r ≤ 255) (hg : g ≤ 255) (hb : b ≤ 255) :
    intResult c .lum r g b 0 = some (luminance r g b) := by
  have hgives := givesInt_lum c (r := intRequest .lum r g b 0)
  apply intResult_of_givesInt
  simpa [toBus_toNat_of_le hr, toBus_toNat_of_le hg, toBus_toNat_of_le hb, hr, hg, hb] using hgives

theorem toBus_zero : toBus 0 = 0 := rfl

/-- Source 0 has alpha 0 and keeps the low half of the destination (R188). -/
theorem srcoverColor_zero (c : Straps) (f : Fmt) (x : Word) : srcoverColor c f 0 x = x.toNat % 65536 := by
  have hzero (ch : Chan) : chan32 c f ch 0 = 0 := by simp [chan32]
  simp only [srcoverColor, hzero]
  rw [overChannel_transparent.1 (BitVec.isLt _), overChannel_transparent.1 (BitVec.isLt _),
    overChannel_transparent.2 (BitVec.isLt _)]
  simp only [BitVec.extractLsb'_toNat, Nat.shiftRight_eq_div_pow]
  omega

/-- A source with alpha 255 is narrowed, whatever the destination (R188). -/
theorem srcoverColor_opaque {c : Straps} {f : Fmt} {p : Word} (h : chan32 c f .a p = 255) (x : Word) :
    srcoverColor c f p x
      = chan32 c f .r p / 8 * 2048 + chan32 c f .g p / 4 * 32 + chan32 c f .b p / 8 := by
  simp only [srcoverColor, h, overChannel_opaque]

end Sys2Proof.Machine
end

section
/-! SUPPORT. BLEND_PATH shows in no result (43_blend.md R177). -/

namespace Sys2Proof.Machine

open Sys2Proof.Statements

theorem require_congr {b : Bool} {a a' : Answer} (h : b = true → a = a') : require b a = require b a' := by
  cases b with
  | false => rfl
  | true => exact congrArg (require true) (h rfl)

/-- The reference word does not depend on BLEND_PATH, and `interp` is that word (R177). -/
theorem interp_withBlendPath (c : Straps) (b b' : BlendPath) (s d : Word) {k : Nat} (hk : k ≤ 256) :
    interp { c with blendPath := b } s d k = interp { c with blendPath := b' } s d k := by
  rw [interp_eq_interpRef _ s d hk, interp_eq_interpRef _ s d hk]
  rfl

theorem ruleOf_withBlendPath (c : Straps) (b b' : BlendPath) (i : Instr) (r : Request) :
    ruleOf i { c with blendPath := b } r = ruleOf i { c with blendPath := b' } r := by
  cases i with
  | interp256 =>
    refine require_congr fun h => congrArg Answer.integer (interp_withBlendPath c b b' _ _ ?_)
    simpa [isScale256] using h
  | interp255 =>
    refine require_congr fun h => congrArg Answer.integer (interp_withBlendPath c b b' _ _ ?_)
    have hle : r.x2.toNat ≤ 255 := by simpa [isByte] using h
    rw [scale256Of_eq, ← scaled_eq hle]
    exact scaled_le hle
  | ext32 | pack32 | swaprb | ext565 | pack565 | ext4444 | pack4444 | widen | narrow | blend8 | scale255
  | srcover16 | lum | ffrom32 | fto32 | flerp | fsrcover => rfl

theorem result_of_violation {i : Instr} {c : Straps} {r : Request} (h : ruleOf i c r = .violation) :
    result c i r = none := by
  simp [result, exec_lone, h, Answer.faultAfter]

/-- Straps show in the response to a violation only, beside the rule's answer. -/
theorem response_eq_of_straps {a : Answer} (h : a ≠ .violation) (c c' : Straps) (n : Nat) :
    a.response c n = a.response c' n := by
  cases a with
  | violation => exact absurd rfl h
  | integer | float | illegal => rfl

/-- A result shows of the straps only what the command's rule does. -/
theorem result_eq_of_ruleOf_eq {i : Instr} {c c' : Straps} {r : Request} (h : ruleOf i c r = ruleOf i c' r) :
    result c i r = result c' i r := by
  by_cases hv : ruleOf i c' r = .violation
  · rw [result_of_violation (h.trans hv), result_of_violation hv]
  · rw [result_of_not_violation (h ▸ hv), result_of_not_violation hv, h, response_eq_of_straps hv]

end Sys2Proof.Machine
end

section
/-! The statements of 43_blend.md on the single commands. -/

namespace Sys2Proof.Machine

open Sys2Proof.Statements

/-- Settles O36: the second form of the byte blend. -/
theorem blend8BlendsTwoBytes : Obligations.Blend8BlendsTwoBytes := by
  intro c r
  refine ⟨by decide, fun ⟨h0, h1, h2⟩ => givesInt_blend8 c h0 h1 h2, fun h => givesViolation_of_require rfl ?_⟩
  simp only [isByte, isScale256, Bool.and_eq_false_iff, decide_eq_false_iff_not]
  omega

/-- Settles O37. -/
theorem scale255ConvertsTheWeight : Obligations.Scale255ConvertsTheWeight := by
  intro c r
  refine ⟨by decide, fun h => ⟨scaled_eq h ▸ givesInt_scale255 c h, (scaled_eq h).symm⟩,
    fun h => givesViolation_of_require rfl ?_⟩
  simp [isByte, h]

/-- Settles O38: every datapath gives the four byte blends. -/
theorem interp256InterpolatesFourBytes : Obligations.Interp256InterpolatesFourBytes := by
  intro c r
  refine ⟨by decide, givesInt_interp256 c, fun h => givesViolation_of_require rfl ?_⟩
  simp [isScale256, h]

/-- Settles O39: the same under the converted weight, which is at most 256. -/
theorem interp255InterpolatesFourBytes : Obligations.Interp255InterpolatesFourBytes := by
  intro c r
  refine ⟨by decide, givesInt_interp255 c, fun h => givesViolation_of_require rfl ?_⟩
  simp [isByte, h]

/-- Settles O40: each channel fits its field, so OR is a sum; the `require` is that the source is premultiplied. -/
theorem srcover16Composites : Obligations.Srcover16Composites := by
  intro c f r
  refine ⟨by cases f <;> decide, ⟨.reservedFmt, by decide⟩, givesInt_srcover16 c f,
    fun h => givesViolation_of_require rfl ?_⟩
  simp only [get32_eq_chan32, Bool.and_eq_false_iff, decide_eq_false_iff_not]
  omega

/-- Settles O41. -/
theorem lumWeighsTheChannels : Obligations.LumWeighsTheChannels := by
  intro c r
  refine ⟨by decide, fun ⟨h0, h1, h2⟩ => givesInt_lum c h0 h1 h2, fun h => givesViolation_of_require rfl ?_⟩
  simp only [isByte, Bool.and_eq_false_iff, decide_eq_false_iff_not]
  omega

end Sys2Proof.Machine
end

section
/-! The laws of 43_blend.md. -/

namespace Sys2Proof.Machine

open Sys2Proof.Statements

/-- Settles O42: the blend is monotone and keeps equal bytes. -/
theorem byteBlendStaysBetweenItsOperands : Obligations.ByteBlendStaysBetweenItsOperands := by
  intro c s d k hs hd hk
  refine ⟨_, intResult_blend8 c hs hd hk, min_le_mix c s d hk, mix_le_max c s d hk, ?_, ?_,
    fun s' hss' hs' => ⟨_, intResult_blend8 c hs' hd hk, mix_mono c k hss' le_rfl⟩,
    fun d' hdd' hd' => ⟨_, intResult_blend8 c hs hd' hk, mix_mono c k le_rfl hdd'⟩⟩
  · rintro rfl
    exact mix_zero c s d
  · rintro rfl
    exact mix_256 c s d

/-- Settles O43: each datapath is the reference one, and no other rule reads BLEND_PATH. -/
theorem everyBlendPathGivesTheSameWord : Obligations.EveryBlendPathGivesTheSameWord :=
  ⟨fun c s d _ hk => ⟨interpRef_toNat c s d hk, interpSplay32_eq_interpRef c s d hk,
    interpSplay64_eq_interpRef c s d hk⟩,
   fun c b b' i r => result_eq_of_ruleOf_eq (ruleOf_withBlendPath c b b' i r)⟩

/-- Settles O44: a lane's sum is below 2^16. -/
theorem splayLanesNeverCollide : Obligations.SplayLanesNeverCollide := by
  intro bias k s d hbias hk
  have hle := byteSum_le s d hbias hk
  have hlo := splayLanes32_evenBytes_toNat s d hbias hk
  have hhi := splayLanes32_oddBytes_toNat s d hbias hk
  refine ⟨hle 0, hle 1, hle 2, hle 3, hlo, hhi, ?_⟩
  rw [splayLanes64_eq_wordPair s d hbias hk, wordPair_toNat, hlo, hhi]
  simp only [byteSum, laneSum]
  ring

/-- Settles O45: at the ends every byte blend is exact, and 255 converts to 256. -/
theorem interpolationEndpointsAreExact : Obligations.InterpolationEndpointsAreExact := by
  intro c s d hs hd
  have hscaled : scaled 0 = 0 ∧ scaled 255 = 256 := by decide
  refine ⟨?_, ?_, ?_, ?_⟩
  · rw [intResult_interp256 c s d (by decide), mix32_zero, toBus_toNat hd]
  · rw [intResult_interp256 c s d (by decide), mix32_256, toBus_toNat hs]
  · rw [intResult_interp255 c s d (by decide), hscaled.1, mix32_zero, toBus_toNat hd]
  · rw [intResult_interp255 c s d (by decide), hscaled.2, mix32_256, toBus_toNat hs]

/-- Settles O46: each byte is blended under the same weight, and the blend is monotone. -/
theorem interpolationKeepsPremultiplication : Obligations.InterpolationKeepsPremultiplication := by
  intro c s d k ⟨hs0, hs1, hs2⟩ ⟨hd0, hd1, hd2⟩ hk
  refine ⟨mix32 c s d k, ?_, ?_⟩
  · rw [intResult_interp256 c _ _ hk, toBus_toNat_self, toBus_toNat_self]
  · have hy : (BitVec.ofNat 32 (mix32 c s d k)).toNat = mix32 c s d k := toBus_toNat (mix32_lt c s d hk)
    obtain ⟨h0, h1, h2, h3⟩ := byte32_of_toNat_eq_mix32 c s d hk hy
    simp only [h0, h1, h2, h3]
    exact ⟨mix_mono c k hs0 hd0, mix_mono c k hs1 hd1, mix_mono c k hs2 hd2⟩

/-- Settles O47: the destination weighs at most 255 - alpha, all of itself under alpha 0 and nothing under 255. -/
theorem srcover16Laws : Obligations.Srcover16Laws := by
  refine ⟨fun v a d hv ha => ⟨fun hd => ?_, fun hd => ?_⟩, fun c f d hd => ?_, fun c f p d halpha => ?_⟩
  · rw [srcoverChannel_eq_overChannel]
    exact Nat.le_of_lt_succ (overChannel_lt hv ha (by decide) (by decide) (Nat.lt_succ_of_le hd))
  · rw [srcoverChannel_eq_overChannel]
    exact Nat.le_of_lt_succ (overChannel_lt hv ha (by decide) (by decide) (Nat.lt_succ_of_le hd))
  · have hpre : Premultiplied c f (toBus 0) := by simp [toBus_zero, Premultiplied, chan32]
    rw [intResult_srcover16 c f d hpre, toBus_zero, srcoverColor_zero, toBus_toNat hd]
  · have hle (ch : Chan) : chan32 c f ch (toBus p.toNat) ≤ chan32 c f .a (toBus p.toNat) := by
      rw [toBus_toNat_self, halpha]
      exact chan32_le c f ch p
    rw [intResult_srcover16 c f d ⟨hle .r, hle .g, hle .b⟩, toBus_toNat_self, srcoverColor_opaque halpha]

/-- Settles O48: the weights are positive and sum to 256. -/
theorem lumLaws : Obligations.LumLaws := by
  intro c r g b hr hg hb
  refine ⟨_, intResult_lum c hr hg hb, luminance_le hr hg hb, ?_, fun r' g' b' hrr' hgg' hbb' hr' hg' hb' =>
    ⟨_, intResult_lum c hr' hg' hb', luminance_mono hrr' hgg' hbb'⟩⟩
  rintro rfl rfl
  exact luminance_grey r

end Sys2Proof.Machine
end

section
/-! SUPPORT. Binary32 patterns by sign and absolute bits (44_float.md R220): a pattern's 31 absolute bits, as a number,
order its magnitude. -/

namespace Sys2Proof.Machine

open Sys2Proof.Statements

/-- The pattern without its sign. -/
def absBits (x : Word) : Nat := x.toNat % 2 ^ 31

/-- The absolute bits of an infinity; those of a NaN are greater, those of a finite pattern smaller. -/
def infBits : Nat := 0x7F800000

/-- How far the last place of a pattern with absolute bits `b` is above 2^-149. -/
def ulpExp (b : Nat) : Nat := b / 2 ^ 23 - 1

/-- The significand of absolute bits `b`, the implicit bit included. -/
def significand (b : Nat) : Nat := b - ulpExp b * 2 ^ 23

/-- The magnitude that absolute bits stand for, in units of 2^-149. -/
def bitsMagnitude (b : Nat) : Nat := significand b * 2 ^ ulpExp b

theorem ulpExp_add_significand (b : Nat) : ulpExp b * 2 ^ 23 + significand b = b := by
  unfold significand ulpExp
  omega

theorem significand_lt (b : Nat) : significand b < 2 ^ 24 := by
  unfold significand ulpExp
  omega

/-- Only subnormals have a significand below 2^23, and their last place is 2^-149. -/
theorem ulpExp_eq_zero_or_le_significand (b : Nat) : ulpExp b = 0 ∨ 2 ^ 23 ≤ significand b := by
  unfold significand ulpExp
  omega

/-- A significand and the exponent of its last place, put together. A significand of 2^24 carries into the exponent. -/
theorem bitsMagnitude_add {e q : Nat} (hq : q ≤ 2 ^ 24) (he : e = 0 ∨ 2 ^ 23 ≤ q) :
    bitsMagnitude (e * 2 ^ 23 + q) = q * 2 ^ e := by
  obtain rfl | hlt : q = 2 ^ 24 ∨ q < 2 ^ 24 := by omega
  · have hexp : ulpExp (e * 2 ^ 23 + 2 ^ 24) = e + 1 := by unfold ulpExp; omega
    have hsig : significand (e * 2 ^ 23 + 2 ^ 24) = 2 ^ 23 := by rw [significand, hexp]; omega
    rw [bitsMagnitude, hexp, hsig]
    ring
  · have hexp : ulpExp (e * 2 ^ 23 + q) = e := by unfold ulpExp; omega
    have hsig : significand (e * 2 ^ 23 + q) = q := by rw [significand, hexp]; omega
    rw [bitsMagnitude, hexp, hsig]

/-- The next pattern is greater by one last place. -/
theorem bitsMagnitude_succ (b : Nat) : bitsMagnitude (b + 1) = bitsMagnitude b + 2 ^ ulpExp b := by
  have hlt := significand_lt b
  have hsplit := ulpExp_add_significand b
  calc bitsMagnitude (b + 1)
    _ = bitsMagnitude (ulpExp b * 2 ^ 23 + (significand b + 1)) := by rw [← Nat.add_assoc, hsplit]
    _ = (significand b + 1) * 2 ^ ulpExp b :=
      bitsMagnitude_add hlt ((ulpExp_eq_zero_or_le_significand b).imp_right Nat.le_succ_of_le)
    _ = bitsMagnitude b + 2 ^ ulpExp b := by rw [bitsMagnitude, Nat.succ_mul]

theorem bitsMagnitude_strictMono : StrictMono bitsMagnitude :=
  strictMono_nat_of_lt_succ fun b => by
    rw [bitsMagnitude_succ]
    exact Nat.lt_add_of_pos_right (Nat.two_pow_pos _)

@[simp] theorem bitsMagnitude_zero : bitsMagnitude 0 = 0 := rfl

theorem bitsMagnitude_eq_zero_iff {b : Nat} : bitsMagnitude b = 0 ↔ b = 0 :=
  bitsMagnitude_strictMono.injective.eq_iff' bitsMagnitude_zero

theorem absBits_eq (x : Word) : absBits x = expField x * 2 ^ 23 + fracField x := by
  rw [absBits, expField, fracField, field_eq, field_eq]
  omega

theorem expField_lt (x : Word) : expField x < 2 ^ 8 := field_lt _ _ _

theorem fracField_lt (x : Word) : fracField x < 2 ^ 23 := field_lt _ _ _

/-- The model's magnitude reads the exponent and fraction fields; it is that of the absolute bits. -/
theorem magnitude_eq (x : Word) : magnitude x = bitsMagnitude (absBits x) := by
  have hfrac := fracField_lt x
  rw [absBits_eq, magnitude]
  split_ifs with hexp
  · simpa [hexp] using (bitsMagnitude_add (e := 0) (q := fracField x) (by omega) (.inl rfl)).symm
  · have hcarry : expField x * 2 ^ 23 + fracField x = (expField x - 1) * 2 ^ 23 + (2 ^ 23 + fracField x) := by
      omega
    rw [hcarry, bitsMagnitude_add (by omega) (by omega), Nat.shiftLeft_eq]

theorem isNaN_iff (x : Word) : isNaN x = true ↔ infBits < absBits x := by
  have hexp := expField_lt x
  have hfrac := fracField_lt x
  rw [isNaN, absBits_eq, infBits, Bool.and_eq_true, beq_iff_eq, bne_iff_ne]
  omega

theorem isInf_iff (x : Word) : isInf x = true ↔ absBits x = infBits := by
  have hexp := expField_lt x
  have hfrac := fracField_lt x
  rw [isInf, absBits_eq, infBits, Bool.and_eq_true, beq_iff_eq, beq_iff_eq]
  omega

theorem isNaN_eq_false_iff (x : Word) : isNaN x = false ↔ absBits x ≤ infBits := by
  rw [← Bool.not_eq_true, isNaN_iff, not_lt]

theorem nanPattern_iff (x : Word) : NaNPattern x ↔ isNaN x = true := (isNaN_iff x).symm

/-- The sign's place value and the absolute bits make the pattern. -/
theorem toNat_eq_sign_add (x : Word) : x.toNat = (if signBit x then 2 ^ 31 else 0) + absBits x := by
  have hx := x.isLt
  have hsign : signBit x = decide (2 ^ 31 ≤ x.toNat) := BitVec.msb_eq_decide x
  rw [absBits, hsign]
  split_ifs with h <;> simp at h <;> omega

theorem absBits_lt (x : Word) : absBits x < 2 ^ 31 := Nat.mod_lt _ (by decide)

theorem word_ext {x y : Word} (hsign : signBit x = signBit y) (hbits : absBits x = absBits y) : x = y := by
  apply BitVec.eq_of_toNat_eq
  rw [toNat_eq_sign_add, toNat_eq_sign_add y, hsign, hbits]

/-- A pattern is given by a sign and absolute bits. -/
theorem absBits_toBus {neg : Bool} {b : Nat} (hb : b < 2 ^ 31) :
    absBits (toBus ((if neg then 2 ^ 31 else 0) + b)) = b := by
  rw [absBits, toBus_toNat (by split_ifs <;> omega)]
  split_ifs <;> omega

theorem signBit_toBus {neg : Bool} {b : Nat} (hb : b < 2 ^ 31) :
    signBit (toBus ((if neg then 2 ^ 31 else 0) + b)) = neg := by
  have hbits := toNat_eq_sign_add (toBus ((if neg then 2 ^ 31 else 0) + b))
  rw [absBits_toBus hb, toBus_toNat (by split_ifs <;> omega)] at hbits
  cases neg <;> cases hs : signBit _ <;> simp_all

end Sys2Proof.Machine
end

section
/-! SUPPORT. Rounding to binary32 (44_float.md R221): it is exact on magnitudes of patterns, non-decreasing, and, in the
normal range, off by at most one part in 2^24. -/

namespace Sys2Proof.Machine

/-- `n / 2^sh` rounded is within one half of it. -/
theorem roundEven_error (n sh : Nat) :
    2 * n ≤ 2 * (roundEven n sh * 2 ^ sh) + 2 ^ sh ∧ 2 * (roundEven n sh * 2 ^ sh) ≤ 2 * n + 2 ^ sh := by
  have hdiv := Nat.div_add_mod' n (2 ^ sh)
  have hlt := Nat.mod_lt n (Nat.two_pow_pos sh)
  simp only [roundEven, Nat.shiftRight_eq_div_pow, Nat.shiftLeft_eq, one_mul]
  split_ifs
  · rw [add_one_mul]
    omega
  · omega

theorem roundEven_mul (q sh : Nat) : roundEven (q * 2 ^ sh) sh = q := by
  have hpos := Nat.two_pow_pos sh
  simp [roundEven, Nat.shiftRight_eq_div_pow, Nat.shiftLeft_eq, hpos.ne]

theorem roundEven_mono (sh : Nat) : Monotone fun n => roundEven n sh := by
  intro n n' h
  have hq : n / 2 ^ sh ≤ n' / 2 ^ sh := Nat.div_le_div_right h
  have hn := Nat.div_add_mod' n (2 ^ sh)
  have hn' := Nat.div_add_mod' n' (2 ^ sh)
  simp only [roundEven, Nat.shiftRight_eq_div_pow, Nat.shiftLeft_eq, one_mul]
  rcases hq.lt_or_eq with hlt | heq
  · split_ifs <;> omega
  · rw [← heq] at hn' ⊢
    split_ifs <;> omega

theorem roundEven_le {n a sh : Nat} (h : n ≤ a * 2 ^ sh) : roundEven n sh ≤ a :=
  (roundEven_mono sh h).trans_eq (roundEven_mul a sh)

theorem le_roundEven {n a sh : Nat} (h : a * 2 ^ sh ≤ n) : a ≤ roundEven n sh :=
  (roundEven_mul a sh).symm.trans_le (roundEven_mono sh h)

/-- How many low bits of `n` rounding `n · 2^(-149-k)` drops. -/
def roundShift (n k : Nat) : Nat := max k (Nat.log2 n - 23)

/-- The rounded magnitude's absolute bits, before the overflow to an infinity. -/
def uncappedBits (n k : Nat) : Nat := (roundShift n k - k) * 2 ^ 23 + roundEven n (roundShift n k)

/-- The absolute bits of `n · 2^(-149-k)` rounded to binary32. -/
def roundBits (n k : Nat) : Nat := min (uncappedBits n k) infBits

theorem roundPack_eq (neg : Bool) (n k : Nat) :
    roundPack neg n k = toBus ((if neg then 2 ^ 31 else 0) + roundBits n k) := by
  rw [roundPack, roundBits, uncappedBits, Nat.shiftLeft_eq]
  rfl

theorem roundBits_le (n k : Nat) : roundBits n k ≤ infBits := min_le_right _ _

theorem roundBits_lt (n k : Nat) : roundBits n k < 2 ^ 31 := (roundBits_le n k).trans_lt (by decide)

@[simp] theorem absBits_roundPack (neg : Bool) (n k : Nat) : absBits (roundPack neg n k) = roundBits n k := by
  rw [roundPack_eq, absBits_toBus (roundBits_lt n k)]

@[simp] theorem signBit_roundPack (neg : Bool) (n k : Nat) : signBit (roundPack neg n k) = neg := by
  rw [roundPack_eq, signBit_toBus (roundBits_lt n k)]

/-- What rounding keeps of `n` is below 2^24 in units of the kept last place. -/
theorem lt_two_pow_roundShift (n k : Nat) : n < 2 ^ 24 * 2 ^ roundShift n k := by
  have hle : Nat.log2 n + 1 ≤ 24 + roundShift n k := by unfold roundShift; omega
  calc n
    _ < 2 ^ (Nat.log2 n + 1) := Nat.lt_log2_self
    _ ≤ 2 ^ (24 + roundShift n k) := Nat.pow_le_pow_right (by decide) hle
    _ = 2 ^ 24 * 2 ^ roundShift n k := pow_add _ _ _

/-- Either the last place is the smallest there is, or rounding keeps 24 bits. -/
theorem roundShift_eq_or_le (n k : Nat) : roundShift n k = k ∨ 2 ^ 23 * 2 ^ roundShift n k ≤ n := by
  by_cases h : Nat.log2 n - 23 ≤ k
  · exact .inl (max_eq_left h)
  · have hshift : roundShift n k = Nat.log2 n - 23 := max_eq_right (by omega)
    have hne : n ≠ 0 := by rintro rfl; simp at h
    refine .inr ?_
    rw [hshift, ← pow_add, Nat.add_sub_cancel' (by omega)]
    exact Nat.log2_self_le hne

theorem roundEven_roundShift_le (n k : Nat) : roundEven n (roundShift n k) ≤ 2 ^ 24 :=
  roundEven_le (lt_two_pow_roundShift n k).le

/-- The rounded magnitude is the rounded significand at its last place. -/
theorem bitsMagnitude_uncappedBits (n k : Nat) :
    bitsMagnitude (uncappedBits n k) * 2 ^ k = roundEven n (roundShift n k) * 2 ^ roundShift n k := by
  have hk : k ≤ roundShift n k := le_max_left _ _
  have hsmall : roundShift n k - k = 0 ∨ 2 ^ 23 ≤ roundEven n (roundShift n k) :=
    (roundShift_eq_or_le n k).imp (by omega) le_roundEven
  rw [uncappedBits, bitsMagnitude_add (roundEven_roundShift_le n k) hsmall, mul_assoc, ← pow_add,
    Nat.sub_add_cancel hk]

/-- Rounding is non-decreasing: with equal last places by `roundEven_mono`, and otherwise because the smaller number
stays at or below 2^24 of its last places. -/
theorem roundBits_mono (k : Nat) : Monotone fun n => roundBits n k := by
  intro n n' h
  refine min_le_min_right _ ?_
  have hlog : roundShift n k ≤ roundShift n' k := by
    have hlog2 : Nat.log2 n ≤ Nat.log2 n' := by
      rw [Nat.log2_eq_log_two, Nat.log2_eq_log_two]
      exact Nat.log_mono_right h
    unfold roundShift
    omega
  unfold uncappedBits
  rcases hlog.lt_or_eq with hlt | heq
  · have hk : k ≤ roundShift n k := le_max_left _ _
    have hsmall := roundEven_roundShift_le n k
    have hlarge : 2 ^ 23 ≤ roundEven n' (roundShift n' k) :=
      le_roundEven ((roundShift_eq_or_le n' k).resolve_left (by omega))
    omega
  · have hround := roundEven_mono (roundShift n k) h
    rw [← heq]
    exact Nat.add_le_add_left hround _

/-- A number of at most 24 bits, and of 24 bits where its last place is not the smallest, keeps all its bits. -/
theorem roundShift_mul {q m k : Nat} (hq : q < 2 ^ 24) (hk : k ≤ m) (hm : m = k ∨ 2 ^ 23 ≤ q) :
    roundShift (q * 2 ^ m) k = m := by
  unfold roundShift
  rcases Nat.eq_zero_or_pos q with rfl | hpos
  · have hmk : m = k := by simpa using hm
    simp [hmk]
  · have hne : q * 2 ^ m ≠ 0 := by positivity
    have hlog : Nat.log2 (q * 2 ^ m) < 24 + m := by
      rw [Nat.log2_lt hne, pow_add]
      exact Nat.mul_lt_mul_of_pos_right hq (Nat.two_pow_pos m)
    have hlog' : m = k ∨ 23 + m ≤ Nat.log2 (q * 2 ^ m) := hm.imp_right fun h => by
      rw [Nat.le_log2 hne, pow_add]
      exact Nat.mul_le_mul_right _ h
    omega

/-- A magnitude that a pattern stands for is rounded to that pattern. -/
theorem roundBits_bitsMagnitude {b : Nat} (k : Nat) (hb : b ≤ infBits) :
    roundBits (bitsMagnitude b * 2 ^ k) k = b := by
  have hmul : bitsMagnitude b * 2 ^ k = significand b * 2 ^ (ulpExp b + k) := by
    rw [bitsMagnitude, mul_assoc, ← pow_add]
  have hshift : roundShift (significand b * 2 ^ (ulpExp b + k)) k = ulpExp b + k :=
    roundShift_mul (significand_lt b) (Nat.le_add_left _ _) ((ulpExp_eq_zero_or_le_significand b).imp_left (by omega))
  rw [hmul, roundBits, uncappedBits, hshift, roundEven_mul, Nat.add_sub_cancel, ulpExp_add_significand, min_eq_left hb]

@[simp] theorem roundBits_zero (k : Nat) : roundBits 0 k = 0 := by
  simpa using roundBits_bitsMagnitude (b := 0) k (by decide)

/-- Where neither the smallest last place nor the overflow is reached, rounding errs by at most one part in 2^24. -/
theorem roundBits_error {n k : Nat} (hnormal : 2 ^ (23 + k) ≤ n) (hfinite : roundBits n k < infBits) :
    2 ^ 24 * n ≤ 2 ^ 24 * (bitsMagnitude (roundBits n k) * 2 ^ k) + n ∧
      2 ^ 24 * (bitsMagnitude (roundBits n k) * 2 ^ k) ≤ 2 ^ 24 * n + n := by
  have hcap : roundBits n k = uncappedBits n k := by
    unfold roundBits at hfinite ⊢
    omega
  have hplace : 2 ^ 23 * 2 ^ roundShift n k ≤ n := by
    rcases roundShift_eq_or_le n k with heq | hle
    · rwa [heq, ← pow_add]
    · exact hle
  have herror := roundEven_error n (roundShift n k)
  rw [hcap, bitsMagnitude_uncappedBits]
  omega

end Sys2Proof.Machine
end

section
/-! SUPPORT. Values of binary32 patterns, and the patterns in [0,1] (44_float.md R220, R223). -/

namespace Sys2Proof.Machine

open Sys2Proof.Statements

theorem value_of_positive {x : Word} (h : signBit x = false) : value x = bitsMagnitude (absBits x) := by
  simp [value, h, magnitude_eq]

theorem value_of_negative {x : Word} (h : signBit x = true) : value x = -(bitsMagnitude (absBits x) : Int) := by
  simp [value, h, magnitude_eq]

theorem natAbs_value (x : Word) : (value x).natAbs = bitsMagnitude (absBits x) := by
  cases h : signBit x
  · rw [value_of_positive h, Int.natAbs_natCast]
  · rw [value_of_negative h, Int.natAbs_neg, Int.natAbs_natCast]

@[simp] theorem value_zero : value 0 = 0 := by decide

@[simp] theorem value_kOne : value kOne = 2 ^ 149 := by decide

theorem value_eq_zero_iff (x : Word) : value x = 0 ↔ absBits x = 0 := by
  rw [← Int.natAbs_eq_zero, natAbs_value, bitsMagnitude_eq_zero_iff]

theorem value_neg_iff {x : Word} (h : absBits x ≠ 0) : value x < 0 ↔ signBit x = true := by
  have hpos : bitsMagnitude (absBits x) ≠ 0 := mt bitsMagnitude_eq_zero_iff.mp h
  cases hs : signBit x with
  | false =>
    rw [value_of_positive hs, eq_false (Bool.false_ne_true), iff_false]
    omega
  | true =>
    rw [value_of_negative hs, eq_true rfl, iff_true]
    omega

/-- Zero with either sign. -/
def signedZero (neg : Bool) : Word := roundPack neg 0 0

@[simp] theorem signBit_signedZero (neg : Bool) : signBit (signedZero neg) = neg := by simp [signedZero]

@[simp] theorem absBits_signedZero (neg : Bool) : absBits (signedZero neg) = 0 := by simp [signedZero]

theorem eq_signedZero {x : Word} (h : absBits x = 0) : x = signedZero (signBit x) :=
  word_ext (by simp) (by simp [h])

theorem isNaN_zero : isNaN 0 = false := by decide

theorem isNaN_kOne : isNaN kOne = false := by decide

theorem inUnit_iff_bits (x : Word) :
    InUnit x ↔ (signBit x = false ∧ absBits x ≤ 0x3F800000) ∨ absBits x = 0 := by
  have hsplit := toNat_eq_sign_add x
  have hlt := absBits_lt x
  have hneg : x = 0x80000000 ↔ x.toNat = 0x80000000 := BitVec.toNat_inj.symm
  rw [InUnit, hneg]
  cases hs : signBit x with
  | false =>
    rw [hs, if_neg Bool.false_ne_true] at hsplit
    simp only [true_and]
    omega
  | true =>
    rw [hs, if_pos rfl] at hsplit
    simp only [reduceCtorEq, false_and, false_or]
    omega

/-- The model's comparisons with 0 and 1.0 admit the patterns of [0,1]: +0 up to 1.0, and −0. -/
theorem inUnit_iff (x : Word) : InUnit x ↔ isNaN x = false ∧ 0 ≤ value x ∧ value x ≤ 2 ^ 149 := by
  have hle : bitsMagnitude (absBits x) ≤ 2 ^ 149 ↔ absBits x ≤ 0x3F800000 :=
    bitsMagnitude_strictMono.le_iff_le (b := 0x3F800000)
  have hzero := bitsMagnitude_eq_zero_iff (b := absBits x)
  rw [inUnit_iff_bits, isNaN_eq_false_iff, infBits]
  cases hs : signBit x with
  | false =>
    rw [value_of_positive hs]
    simp only [true_and]
    omega
  | true =>
    rw [value_of_negative hs]
    simp only [reduceCtorEq, false_and, false_or]
    omega

theorem inUnit_zero : InUnit 0 := .inl (by decide)

theorem inUnit_kOne : InUnit kOne := .inl (by decide)

theorem finite_of_inUnit {x : Word} (h : InUnit x) : absBits x < infBits := by
  rw [inUnit_iff_bits] at h
  unfold infBits
  omega

theorem in01_iff (x : Word) : in01 x = true ↔ InUnit x := by
  have h0 : fle 0 x = true ↔ isNaN x = false ∧ 0 ≤ value x := by
    rw [fle, isNaN_zero, value_zero]
    simp
  have h1 : fle x kOne = true ↔ isNaN x = false ∧ value x ≤ 2 ^ 149 := by
    rw [fle, isNaN_kOne, value_kOne]
    simp
  rw [in01, Bool.and_eq_true, h0, h1, inUnit_iff]
  tauto

end Sys2Proof.Machine
end

section
/-! SUPPORT. Sums and products of finite patterns (44_float.md R221): products with a positive constant are
non-decreasing, and 1.0 and 0 are units but for the sign of a zero. -/

namespace Sys2Proof.Machine

open Sys2Proof.Statements

theorem not_isNaN_of_finite {x : Word} (h : absBits x < infBits) : isNaN x = false :=
  (isNaN_eq_false_iff x).mpr h.le

theorem not_isInf_of_finite {x : Word} (h : absBits x < infBits) : isInf x = false := by
  rw [← Bool.not_eq_true, isInf_iff]
  exact h.ne

theorem fmul32_of_finite {a b : Word} (ha : absBits a < infBits) (hb : absBits b < infBits) :
    fmul32 a b = roundPack (signBit a != signBit b) (bitsMagnitude (absBits a) * bitsMagnitude (absBits b)) 149 := by
  simp [fmul32, not_isNaN_of_finite, not_isInf_of_finite, ha, hb, magnitude_eq]

theorem fadd32_of_finite {a b : Word} (ha : absBits a < infBits) (hb : absBits b < infBits) :
    fadd32 a b = if value a + value b = 0 then signedZero (signBit a && signBit b)
      else roundPack (decide (value a + value b < 0)) (value a + value b).natAbs 0 := by
  simp [fadd32, not_isNaN_of_finite, not_isInf_of_finite, ha, hb, signedZero]

theorem fadd32_comm_of_finite {a b : Word} (ha : absBits a < infBits) (hb : absBits b < infBits) :
    fadd32 a b = fadd32 b a := by
  rw [fadd32_of_finite ha hb, fadd32_of_finite hb ha, add_comm, Bool.and_comm]

/-- A product with 1.0 is exact. -/
theorem fmul32_kOne {x : Word} (hx : absBits x < infBits) : fmul32 x kOne = x := by
  have hone : bitsMagnitude (absBits kOne) = 2 ^ 149 := by decide
  have hsign : signBit kOne = false := by decide
  rw [fmul32_of_finite hx (by decide), hone, hsign]
  exact word_ext (by simp) (by rw [absBits_roundPack, roundBits_bitsMagnitude 149 hx.le])

/-- A product with +0 is a zero of the other operand's sign. -/
theorem fmul32_zero {x : Word} (hx : absBits x < infBits) : fmul32 x 0 = signedZero (signBit x) := by
  have hzero : absBits 0 = 0 := by decide
  have hsign : signBit 0 = false := by decide
  rw [fmul32_of_finite hx (by decide), hzero, hsign]
  exact word_ext (by simp) (by simp)

/-- A zero added to a number other than 0 leaves it as it is. -/
theorem fadd32_signedZero {x : Word} (hx : absBits x < infBits) (hne : absBits x ≠ 0) (neg : Bool) :
    fadd32 x (signedZero neg) = x := by
  have hfinite : absBits (signedZero neg) < infBits := by
    rw [absBits_signedZero]
    decide
  have hsum : value x + value (signedZero neg) = value x := by
    rw [(value_eq_zero_iff _).mpr (absBits_signedZero neg), add_zero]
  rw [fadd32_of_finite hx hfinite, hsum, if_neg (mt (value_eq_zero_iff x).mp hne), natAbs_value]
  refine word_ext ?_ ?_
  · simp [value_neg_iff hne]
  · simpa using roundBits_bitsMagnitude 0 hx.le

/-- The sum of two zeros is −0 only if both are. -/
theorem signedZero_add_signedZero (neg neg' : Bool) :
    fadd32 (signedZero neg) (signedZero neg') = signedZero (neg && neg') := by
  cases neg <;> cases neg' <;> decide

/-- The kept operand of an interpolation's end, with the product of the other one by +0 added (R235). -/
theorem fadd32_fmul32_zero {other kept : Word} (ho : absBits other < infBits) (hk : absBits kept < infBits) :
    fadd32 kept (fmul32 other 0) = endpoint other kept := by
  have hnegZero : (0x80000000 : Word) = signedZero true := by decide
  have hsign : other.getLsbD 31 = signBit other := rfl
  rw [fmul32_zero ho, endpoint, hsign, hnegZero]
  by_cases hzero : absBits kept = 0
  · rw [eq_signedZero hzero, signedZero_add_signedZero]
    generalize signBit kept = neg, signBit other = neg'
    cases neg <;> cases neg' <;> decide
  · rw [fadd32_signedZero hk hzero, if_neg]
    rintro ⟨rfl, -⟩
    exact hzero (by decide)

/-- A finite pattern above 0, as the constants of R222 are. -/
def PositiveFinite (k : Word) : Prop := signBit k = false ∧ 0 < absBits k ∧ absBits k < infBits

section
variable {k : Word} (hk : PositiveFinite k)
include hk

/-- A product with a positive constant: an infinity stays one. -/
theorem fmul32_positive {v : Word} (hv : isNaN v = false) :
    signBit (fmul32 v k) = signBit v ∧
      absBits (fmul32 v k) = if absBits v = infBits then infBits
        else roundBits (bitsMagnitude (absBits v) * bitsMagnitude (absBits k)) 149 := by
  obtain ⟨hsign, hpos, hfinite⟩ := hk
  split_ifs with hinf
  · have hmag : ∀ {x : Word}, absBits x ≠ 0 → (magnitude x == 0) = false := fun h => by
      simpa [magnitude_eq, bitsMagnitude_eq_zero_iff] using h
    have hmul : fmul32 v k = infinity (signBit v) := by
      simp [fmul32, hv, not_isNaN_of_finite hfinite, (isInf_iff v).mpr hinf, hsign, hmag hpos.ne',
        hmag (x := v) (by rw [hinf]; decide)]
    rw [hmul]
    exact ⟨signBit_toBus (by decide), absBits_toBus (by decide)⟩
  · have hlt := lt_of_le_of_ne ((isNaN_eq_false_iff v).mp hv) hinf
    simp [fmul32_of_finite hlt hfinite, hsign]

theorem absBits_fmul32_mono {v w : Word} (hv : isNaN v = false) (hw : isNaN w = false)
    (h : absBits v ≤ absBits w) : absBits (fmul32 v k) ≤ absBits (fmul32 w k) := by
  have hle := (isNaN_eq_false_iff w).mp hw
  rw [(fmul32_positive hk hv).2, (fmul32_positive hk hw).2]
  by_cases hinf : absBits w = infBits
  · rw [if_pos hinf]
    split_ifs
    · exact le_rfl
    · exact roundBits_le _ _
  · rw [if_neg hinf, if_neg (by omega)]
    exact roundBits_mono 149 (Nat.mul_le_mul_right _ (bitsMagnitude_strictMono.monotone h))

/-- In the normal range a product errs by at most one part in 2^24. -/
theorem fmul32_error {v : Word} (hv : absBits v < infBits)
    (hnormal : 2 ^ (23 + 149) ≤ bitsMagnitude (absBits v) * bitsMagnitude (absBits k))
    (hfinite : absBits (fmul32 v k) < infBits) :
    2 ^ 24 * (bitsMagnitude (absBits v) * bitsMagnitude (absBits k))
        ≤ 2 ^ 24 * (bitsMagnitude (absBits (fmul32 v k)) * 2 ^ 149)
          + bitsMagnitude (absBits v) * bitsMagnitude (absBits k) ∧
      2 ^ 24 * (bitsMagnitude (absBits (fmul32 v k)) * 2 ^ 149)
        ≤ 2 ^ 24 * (bitsMagnitude (absBits v) * bitsMagnitude (absBits k))
          + bitsMagnitude (absBits v) * bitsMagnitude (absBits k) := by
  have hbits := (fmul32_positive hk (not_isNaN_of_finite hv)).2
  rw [if_neg hv.ne] at hbits
  rw [hbits] at hfinite ⊢
  exact roundBits_error hnormal hfinite

theorem absBits_fmul32_of_zero {v : Word} (h : absBits v = 0) : absBits (fmul32 v k) = 0 := by
  have hv : isNaN v = false := (isNaN_eq_false_iff v).mpr (by omega)
  rw [(fmul32_positive hk hv).2, h, if_neg (by decide), bitsMagnitude_zero, Nat.zero_mul, roundBits_zero]

/-- Multiplication by a positive constant is non-decreasing (R229). -/
theorem value_fmul32_mono {v w : Word} (hv : isNaN v = false) (hw : isNaN w = false)
    (h : value v ≤ value w) : value (fmul32 v k) ≤ value (fmul32 w k) := by
  obtain ⟨hsv, -⟩ := fmul32_positive hk hv
  obtain ⟨hsw, -⟩ := fmul32_positive hk hw
  have hmono {x y : Word} (hx : isNaN x = false) (hy : isNaN y = false)
      (hle : bitsMagnitude (absBits x) ≤ bitsMagnitude (absBits y)) :
      bitsMagnitude (absBits (fmul32 x k)) ≤ bitsMagnitude (absBits (fmul32 y k)) :=
    bitsMagnitude_strictMono.monotone
      (absBits_fmul32_mono hk hx hy (bitsMagnitude_strictMono.le_iff_le.mp hle))
  cases hv' : signBit v <;> cases hw' : signBit w <;> rw [hv'] at hsv <;> rw [hw'] at hsw
  · rw [value_of_positive hv', value_of_positive hw'] at h
    rw [value_of_positive hsv, value_of_positive hsw]
    exact_mod_cast hmono hv hw (by omega)
  · rw [value_of_positive hv', value_of_negative hw'] at h
    have hzero : bitsMagnitude (absBits v) = 0 ∧ bitsMagnitude (absBits w) = 0 := by omega
    rw [bitsMagnitude_eq_zero_iff, bitsMagnitude_eq_zero_iff] at hzero
    rw [(value_eq_zero_iff _).mpr (absBits_fmul32_of_zero hk hzero.1),
      (value_eq_zero_iff _).mpr (absBits_fmul32_of_zero hk hzero.2)]
  · rw [value_of_negative hsv, value_of_positive hsw]
    omega
  · rw [value_of_negative hv', value_of_negative hw'] at h
    rw [value_of_negative hsv, value_of_negative hsw]
    have hle := hmono hw hv (by omega)
    omega

end

end Sys2Proof.Machine
end

section
/-! SUPPORT. The byte of a float lane (44_float.md R226, R227, R229): clamping, scaling by 255 and rounding. -/

namespace Sys2Proof.Machine

open Sys2Proof.Statements

theorem positiveFinite_k255 : PositiveFinite k255 := by unfold PositiveFinite; decide

theorem value_fmul32_zero_k255 : value (fmul32 0 k255) = 0 := by decide

theorem value_fmul32_kOne_k255 : value (fmul32 kOne k255) = 255 * 2 ^ 149 := by decide

/-- The clamp by the side of [0,1] a number lies on (R226). -/
theorem clamp01_cases {v : Word} (hv : isNaN v = false) :
    (value v < 0 ∧ clamp01 v = 0) ∨ (2 ^ 149 < value v ∧ clamp01 v = kOne) ∨
      (0 ≤ value v ∧ value v ≤ 2 ^ 149 ∧ clamp01 v = v) := by
  have hlt0 : flt v 0 = decide (value v < 0) := by rw [flt, hv, isNaN_zero, value_zero]; rfl
  have hgt1 : flt kOne v = decide (2 ^ 149 < value v) := by rw [flt, hv, isNaN_kOne, value_kOne]; rfl
  simp only [clamp01, hlt0, hgt1, decide_eq_true_eq]
  split_ifs with h0 h1
  · exact .inl ⟨h0, rfl⟩
  · exact .inr (.inl ⟨h1, rfl⟩)
  · exact .inr (.inr ⟨not_lt.mp h0, not_lt.mp h1, rfl⟩)

theorem isNaN_clamp01 {v : Word} (hv : isNaN v = false) : isNaN (clamp01 v) = false := by
  rcases clamp01_cases hv with ⟨-, h⟩ | ⟨-, h⟩ | ⟨-, -, h⟩ <;> rw [h]
  · exact isNaN_zero
  · exact isNaN_kOne
  · exact hv

/-- Clamping a pattern clamps its value. -/
theorem value_clamp01 {v : Word} (hv : isNaN v = false) : value (clamp01 v) = max 0 (min (value v) (2 ^ 149)) := by
  rcases clamp01_cases hv with ⟨hlt, h⟩ | ⟨hgt, h⟩ | ⟨h0, h1, h⟩ <;> rw [h]
  · rw [value_zero]
    omega
  · rw [value_kOne]
    omega
  · omega

/-- The integer a pattern is rounded to is nearest to its value, and a tie goes as FLOAT_TIES says (R227). -/
theorem roundToInt_nearest (t : FloatTies) (p : Word) :
    (2 * (value p - roundToInt t p * 2 ^ 149)).natAbs ≤ 2 ^ 149 ∧
      (t = .tiesUp → 2 * (value p - roundToInt t p * 2 ^ 149) ≠ 2 ^ 149) ∧
      (t = .tiesEven → (2 * (value p - roundToInt t p * 2 ^ 149) = 2 ^ 149 ∨
        2 * (value p - roundToInt t p * 2 ^ 149) = -(2 ^ 149)) → roundToInt t p % 2 = 0) := by
  cases t with
  | tiesUp =>
    simp only [roundToInt]
    exact ⟨by omega, fun _ => by omega, nofun⟩
  | tiesEven =>
    simp only [roundToInt]
    refine ⟨?_, nofun, fun _ => ?_⟩ <;> split_ifs <;> omega

/-- 255 times the clamped lane lies in 0..255. -/
theorem value_fmul32_clamp01 {v : Word} (hv : isNaN v = false) :
    0 ≤ value (fmul32 (clamp01 v) k255) ∧ value (fmul32 (clamp01 v) k255) ≤ 255 * 2 ^ 149 := by
  have hclamp := value_clamp01 hv
  have hnan := isNaN_clamp01 hv
  rw [← value_fmul32_zero_k255, ← value_fmul32_kOne_k255]
  exact ⟨value_fmul32_mono positiveFinite_k255 isNaN_zero hnan (by rw [value_zero]; omega),
    value_fmul32_mono positiveFinite_k255 hnan isNaN_kOne (by rw [value_kOne]; omega)⟩

/-- The saturating build gives the byte of the clamping one: scaling by 255 is non-decreasing and maps 0 to 0 and 1.0 to
255 (R229). -/
theorem laneByte_eq_roundByte (c : Straps) {v : Word} (hv : isNaN v = false) :
    laneByte c v = roundByte c.floatTies (fmul32 (clamp01 v) k255) := by
  unfold laneByte
  cases c.floatClampImpl with
  | clamp => rfl
  | saturate =>
    have hrange := value_fmul32_clamp01 hv
    have hclamped := roundToInt_nearest c.floatTies (fmul32 (clamp01 v) k255)
    have hunclamped := roundToInt_nearest c.floatTies (fmul32 v k255)
    simp only [saturateByte, roundByte]
    rcases clamp01_cases hv with ⟨hlt, h⟩ | ⟨hgt, h⟩ | ⟨-, -, h⟩ <;> rw [h] at hrange hclamped ⊢
    · have hneg : value (fmul32 v k255) ≤ 0 :=
        (value_fmul32_mono positiveFinite_k255 hv isNaN_zero hlt.le).trans_eq value_fmul32_zero_k255
      have hzero := value_fmul32_zero_k255
      omega
    · have hbig : 255 * 2 ^ 149 ≤ value (fmul32 v k255) :=
        value_fmul32_kOne_k255.symm.trans_le
          (value_fmul32_mono positiveFinite_k255 isNaN_kOne hv (value_kOne.trans_le hgt.le))
      have hone := value_fmul32_kOne_k255
      omega
    · omega

theorem roundByte_cast {t : FloatTies} {p : Word} (h : 0 ≤ value p) : (roundByte t p : Int) = roundToInt t p := by
  have hnearest := roundToInt_nearest t p
  unfold roundByte
  omega

theorem laneByte_le (c : Straps) {v : Word} (hv : isNaN v = false) : laneByte c v ≤ 255 := by
  obtain ⟨h0, h255⟩ := value_fmul32_clamp01 hv
  have hnearest := roundToInt_nearest c.floatTies (fmul32 (clamp01 v) k255)
  rw [laneByte_eq_roundByte c hv, roundByte]
  omega

theorem nearestByte_laneByte (c : Straps) {v : Word} (hv : isNaN v = false) :
    NearestByte c.floatTies v (laneByte c v) := by
  obtain ⟨h0, -⟩ := value_fmul32_clamp01 hv
  obtain ⟨hnear, hup, heven⟩ := roundToInt_nearest c.floatTies (fmul32 (clamp01 v) k255)
  rw [← roundByte_cast h0] at hnear hup heven
  rw [laneByte_eq_roundByte c hv]
  refine ⟨hnear, hup, fun ht htie => ?_⟩
  exact_mod_cast heven ht htie

/-- The byte of a lane whose scaled value is within less than one half of `n` (R227). -/
theorem laneByte_eq_of_near (c : Straps) {v : Word} {n : Nat} (hv : InUnit v)
    (hnear : (2 * (value (fmul32 v k255) - n * 2 ^ 149)).natAbs < 2 ^ 149) : laneByte c v = n := by
  obtain ⟨hnan, h0, h1⟩ := (inUnit_iff v).mp hv
  have hclamp : clamp01 v = v := by
    rcases clamp01_cases hnan with ⟨hlt, -⟩ | ⟨hgt, -⟩ | ⟨-, -, h⟩
    · omega
    · omega
    · exact h
  have hnearest := roundToInt_nearest c.floatTies (fmul32 v k255)
  rw [laneByte_eq_roundByte c hnan, hclamp, roundByte]
  omega

end Sys2Proof.Machine
end

section
/-! SUPPORT. The float of a byte (44_float.md R222, R223, R225), and its byte again (R232). -/

namespace Sys2Proof.Machine

open Sys2Proof.Statements

theorem positiveFinite_kInv255 : PositiveFinite kInv255 := by unfold PositiveFinite; decide

/-- Rounding is exact where the bits it drops are 0. -/
theorem bitsMagnitude_roundBits_of_dvd {n k : Nat} (hdvd : 2 ^ roundShift n k ∣ n)
    (hn : n ≤ bitsMagnitude infBits * 2 ^ k) : bitsMagnitude (roundBits n k) * 2 ^ k = n := by
  have hround : roundEven n (roundShift n k) * 2 ^ roundShift n k = n := by
    obtain ⟨q, hq⟩ := hdvd
    generalize roundShift n k = sh at hq
    rw [hq, mul_comm (2 ^ sh), roundEven_mul]
  have hexact : bitsMagnitude (uncappedBits n k) * 2 ^ k = n := (bitsMagnitude_uncappedBits n k).trans hround
  have hcap : uncappedBits n k ≤ infBits := by
    rw [← bitsMagnitude_strictMono.le_iff_le]
    exact Nat.le_of_mul_le_mul_right (hexact.trans_le hn) (Nat.two_pow_pos k)
  rw [roundBits, min_eq_left hcap, hexact]

theorem u8ToF32_bits (n : Nat) : signBit (u8ToF32 n) = false ∧ absBits (u8ToF32 n) = roundBits (n * 2 ^ 149) 0 := by
  simp [u8ToF32, Nat.shiftLeft_eq]

/-- A byte has an exact float (R223). -/
theorem bitsMagnitude_u8ToF32 {n : Nat} (hn : n ≤ 255) : bitsMagnitude (absBits (u8ToF32 n)) = n * 2 ^ 149 := by
  have hlt : n * 2 ^ 149 < 2 ^ 157 := by omega
  have hshift : roundShift (n * 2 ^ 149) 0 ≤ 149 := by
    rcases roundShift_eq_or_le (n * 2 ^ 149) 0 with h | h
    · omega
    · rw [← pow_add] at h
      have hexp := (Nat.pow_lt_pow_iff_right (a := 2) (by decide)).mp (h.trans_lt hlt)
      omega
  have hdvd : 2 ^ roundShift (n * 2 ^ 149) 0 ∣ n * 2 ^ 149 := Dvd.dvd.mul_left (pow_dvd_pow 2 hshift) n
  have hinf : 2 ^ 157 ≤ bitsMagnitude infBits * 2 ^ 0 := by decide
  rw [(u8ToF32_bits n).2]
  exact (mul_one _).symm.trans (bitsMagnitude_roundBits_of_dvd hdvd (hlt.le.trans hinf))

theorem value_u8ToF32 {n : Nat} (hn : n ≤ 255) : value (u8ToF32 n) = (n : Int) * 2 ^ 149 := by
  rw [value_of_positive (u8ToF32_bits n).1, bitsMagnitude_u8ToF32 hn]
  norm_num

theorem absBits_u8ToF32_lt {n : Nat} (hn : n ≤ 255) : absBits (u8ToF32 n) < infBits := by
  have hlt : n * 2 ^ 149 < 2 ^ 157 := by omega
  have hinf : 2 ^ 157 ≤ bitsMagnitude infBits := by decide
  rw [← bitsMagnitude_strictMono.lt_iff_lt, bitsMagnitude_u8ToF32 hn]
  exact hlt.trans_le hinf

theorem byteFloat_eq (n : Nat) : byteFloat n = fmul32 (u8ToF32 n) kInv255 := rfl

theorem byteFloat_255 : byteFloat 255 = kOne := by decide

theorem signBit_byteFloat {n : Nat} (hn : n ≤ 255) : signBit (byteFloat n) = false := by
  have hfinite := absBits_u8ToF32_lt hn
  exact (fmul32_positive positiveFinite_kInv255 (not_isNaN_of_finite hfinite)).1.trans (u8ToF32_bits n).1

/-- The conversion is non-decreasing (R225). -/
theorem absBits_byteFloat_mono {m n : Nat} (hmn : m ≤ n) (hn : n ≤ 255) :
    absBits (byteFloat m) ≤ absBits (byteFloat n) := by
  refine absBits_fmul32_mono positiveFinite_kInv255 (not_isNaN_of_finite (absBits_u8ToF32_lt (hmn.trans hn)))
    (not_isNaN_of_finite (absBits_u8ToF32_lt hn)) ?_
  rw [(u8ToF32_bits m).2, (u8ToF32_bits n).2]
  exact roundBits_mono 0 (Nat.mul_le_mul_right _ hmn)

theorem absBits_byteFloat_le {n : Nat} (hn : n ≤ 255) : absBits (byteFloat n) ≤ 0x3F800000 := by
  have hone : absBits kOne = 0x3F800000 := by decide
  rw [← hone, ← byteFloat_255]
  exact absBits_byteFloat_mono hn le_rfl

theorem absBits_byteFloat_lt {n : Nat} (hn : n ≤ 255) : absBits (byteFloat n) < infBits :=
  (absBits_byteFloat_le hn).trans_lt (by decide)

theorem inUnit_byteFloat {n : Nat} (hn : n ≤ 255) : InUnit (byteFloat n) :=
  (inUnit_iff_bits _).mpr (.inl ⟨signBit_byteFloat hn, absBits_byteFloat_le hn⟩)

theorem bitsMagnitude_kInv255 : bitsMagnitude (absBits kInv255) = 8421505 * 2 ^ 118 := by decide

theorem bitsMagnitude_k255 : bitsMagnitude (absBits k255) = 255 * 2 ^ 149 := by decide

/-- 255 times the float of a byte is near the byte: three roundings to 24 bits, of 1/255, of `n / 255` and of 255 times
that, move it by less than one half (R232). -/
theorem fmul32_byteFloat_near {n : Nat} (hpos : 0 < n) (hn : n ≤ 255) :
    (2 * ((bitsMagnitude (absBits (fmul32 (byteFloat n) k255)) : Int) - n * 2 ^ 149)).natAbs < 2 ^ 149 := by
  have hfloat := absBits_byteFloat_lt hn
  have hscaled : absBits (fmul32 (byteFloat n) k255) < infBits :=
    (absBits_fmul32_mono positiveFinite_k255 (not_isNaN_of_finite hfloat) isNaN_kOne
      (absBits_byteFloat_le hn)).trans_lt (by decide)
  have hdiv := fmul32_error positiveFinite_kInv255 (absBits_u8ToF32_lt hn)
  rw [← byteFloat_eq, bitsMagnitude_u8ToF32 hn, bitsMagnitude_kInv255] at hdiv
  have hdiv := hdiv (by omega) hfloat
  have hmul := fmul32_error positiveFinite_k255 hfloat
  rw [bitsMagnitude_k255] at hmul
  have hmul := hmul (by omega) hscaled
  omega

theorem laneByte_byteFloat (c : Straps) {n : Nat} (hn : n ≤ 255) : laneByte c (byteFloat n) = n := by
  refine laneByte_eq_of_near c (inUnit_byteFloat hn) ?_
  rcases Nat.eq_zero_or_pos n with rfl | hpos
  · decide
  · have hnan := not_isNaN_of_finite (absBits_byteFloat_lt hn)
    have hsign := (fmul32_positive positiveFinite_k255 hnan).1.trans (signBit_byteFloat hn)
    rw [value_of_positive hsign]
    exact fmul32_byteFloat_near hpos hn

end Sys2Proof.Machine
end

section
/-! SUPPORT. What the commands of the float path give (44_float.md R225 to R230). -/

namespace Sys2Proof.Machine

open Sys2Proof.Statements

/-- A command whose rule names FY gives that FY. -/
theorem givesFloat_of_ruleOf {i : Instr} {c : Straps} {r : Request} {fy : FVec}
    (hrule : ruleOf i c r = .float fy) : GivesFloat i c r fy := by
  intro s q hc hp hf
  subst hc
  rw [exec_of_ready i hp hf, hrule]
  rfl

/-- What a command gives in every state, it gives a request alone. -/
theorem floatResult_of_givesFloat {i : Instr} {c : Straps} {r : Request} {fy : FVec}
    (h : GivesFloat i c r fy) : floatResult c i r = some fy := by
  have halone := h (lone c r) [] rfl rfl rfl
  simp [floatResult, result, halone]

theorem result_of_givesInt {i : Instr} {c : Straps} {r : Request} {y : Nat} (h : GivesInt i c r y) :
    result c i r = some ⟨.ok, toBus y, ⟨0, 0, 0, 0⟩⟩ := by
  have halone := h.2 (lone c r) [] rfl rfl rfl
  simp [result, halone, toBus]

theorem fvecOf_chanOf (c : Straps) (g : Chan → Word) : fvecOf (fun j => g (chanOf c.floatLanes j)) = lanes c g := by
  unfold lanes
  cases c.floatLanes <;> rfl

theorem laneAt_laneOf (c : Straps) (v : FVec) (ch : Chan) : laneAt v (laneOf c.floatLanes ch) = chanLane c v ch := by
  cases hl : c.floatLanes <;> cases ch <;> simp [laneOf, laneAt, chanLane, hl]

/-- Each channel of a float vector has its own lane (R39). -/
@[simp] theorem chanLane_lanes (c : Straps) (g : Chan → Word) (ch : Chan) : chanLane c (lanes c g) ch = g ch := by
  rw [← laneAt_laneOf, ← fvecOf_chanOf, laneAt_fvecOf, chanOf_laneOf]

theorem laneAt_of_everyLane {P : Word → Prop} {v : FVec} (h : EveryLane P v) (j : Fin 4) : P (laneAt v j) := by
  obtain ⟨h0, h1, h2, h3⟩ := h
  fin_cases j <;> assumption

theorem everyLane_lanes {P : Word → Prop} (c : Straps) {g : Chan → Word} (h : ∀ ch, P (g ch)) :
    EveryLane P (lanes c g) := by
  unfold lanes
  split_ifs <;> exact ⟨h _, h _, h _, h _⟩

theorem isNaN_chanLane {v : FVec} (h : EveryLane (fun x => ¬ NaNPattern x) v) (c : Straps) (ch : Chan) :
    isNaN (chanLane c v ch) = false := by
  rw [← laneAt_laneOf, ← Bool.not_eq_true, ← nanPattern_iff]
  exact laneAt_of_everyLane h _

/-- A check of every lane. -/
theorem allLanes_iff {p : Word → Bool} {P : Word → Prop} (h : ∀ x, p x = true ↔ P x) (v : FVec) :
    allLanes p v = true ↔ EveryLane P v := by
  simp [allLanes, EveryLane, h, and_assoc]

theorem allLanes_in01_iff (v : FVec) : allLanes in01 v = true ↔ EveryLane InUnit v := allLanes_iff in01_iff v

theorem allLanes_not_isNaN_iff (v : FVec) :
    allLanes (fun x => !isNaN x) v = true ↔ EveryLane (fun x => ¬ NaNPattern x) v :=
  allLanes_iff (fun x => by simp [nanPattern_iff]) v

theorem givesFloat_ffrom32 (c : Straps) (f : Fmt) (r : Request) :
    GivesFloat (.ffrom32 f) c r (lanes c fun ch => byteFloat (chan32 c f ch r.x0)) := by
  refine givesFloat_of_ruleOf ?_
  simp only [← fvecOf_chanOf, ← get32_eq_chan32]
  rfl

/-- The bytes of FTO32, one of each channel's lane. -/
theorem givesInt_fto32 (c : Straps) (f : Fmt) {r : Request} (h : EveryLane (fun x => ¬ NaNPattern x) r.f0) :
    GivesInt (.fto32 f) c r (color32 c f (laneByte c (chanLane c r.f0 .a)) (laneByte c (chanLane c r.f0 .r))
      (laneByte c (chanLane c r.f0 .g)) (laneByte c (chanLane c r.f0 .b))) := by
  have hle (ch : Chan) : laneByte c (chanLane c r.f0 ch) ≤ 255 :=
    laneByte_le c (isNaN_chanLane h c ch)
  refine givesInt_of_require rfl ((allLanes_not_isNaN_iff _).mpr h) ?_
  simp only [chanByte, laneAt_laneOf]
  rw [put32_eq_color32 c f (hle .r) (hle .g) (hle .b),
    toBus_toNat (color32_lt c f (hle .a) (hle .r) (hle .g) (hle .b))]

/-- The `require` of FLERP (R230). -/
def FlerpOperands (r : Request) : Prop := InUnit r.ft ∧ EveryLane InUnit r.f0 ∧ EveryLane InUnit r.f1

theorem require_flerp_iff (r : Request) :
    (in01 r.ft && allLanes in01 r.f0 && allLanes in01 r.f1) = true ↔ FlerpOperands r := by
  simp [FlerpOperands, in01_iff, allLanes_in01_iff, and_assoc]

theorem givesFloat_flerp (c : Straps) {r : Request} (h : FlerpOperands r) :
    GivesFloat .flerp c r (fvecOf fun j =>
      fadd32 (fmul32 (laneAt r.f0 j) r.ft) (fmul32 (laneAt r.f1 j) (fsub32 kOne r.ft))) :=
  givesFloat_of_ruleOf (congrArg (require · _) ((require_flerp_iff r).mpr h))

theorem givesViolation_flerp (c : Straps) {r : Request} (h : ¬ FlerpOperands r) : GivesViolation .flerp c r :=
  givesViolation_of_require rfl (Bool.eq_false_iff.mpr (mt (require_flerp_iff r).mp h))

/-- A lane of FLERP at the weight +0: the destination is kept (R235). -/
theorem flerpLane_zero {s d : Word} (hs : InUnit s) (hd : InUnit d) :
    fadd32 (fmul32 s 0) (fmul32 d (fsub32 kOne 0)) = endpoint s d := by
  have hs := finite_of_inUnit hs
  have hd := finite_of_inUnit hd
  have hweight : fsub32 kOne 0 = kOne := by decide
  have hzero : absBits (fmul32 s 0) < infBits := by
    rw [fmul32_zero hs]
    cases signBit s <;> decide
  rw [hweight, fmul32_kOne hd, fadd32_comm_of_finite hzero hd, fadd32_fmul32_zero hs hd]

/-- A lane of FLERP at the weight 1.0: the source is kept (R235). -/
theorem flerpLane_one {s d : Word} (hs : InUnit s) (hd : InUnit d) :
    fadd32 (fmul32 s kOne) (fmul32 d (fsub32 kOne kOne)) = endpoint d s := by
  have hs := finite_of_inUnit hs
  have hd := finite_of_inUnit hd
  have hweight : fsub32 kOne kOne = 0 := by decide
  rw [hweight, fmul32_kOne hs, fadd32_fmul32_zero hd hs]

/-- A word is the color of its channels in every layout (R115). -/
theorem color32_chan32 (c : Straps) (f : Fmt) (x : Word) :
    color32 c f (chan32 c f .a x) (chan32 c f .r x) (chan32 c f .g x) (chan32 c f .b x) = x.toNat := by
  rw [toNat_eq_bytes x]
  unfold color32 chan32 lowBit
  cases isVariantA c f <;> rfl

theorem laneByte_withFloatClampImpl (c : Straps) (x x' : FloatClampImpl) {v : Word} (hv : isNaN v = false) :
    laneByte { c with floatClampImpl := x } v = laneByte { c with floatClampImpl := x' } v := by
  rw [laneByte_eq_roundByte _ hv, laneByte_eq_roundByte _ hv]

/-- FTO32 alone reads FLOAT_CLAMP_IMPL (R229). -/
theorem ruleOf_withFloatClampImpl (c : Straps) (x x' : FloatClampImpl) (i : Instr) (r : Request) :
    ruleOf i { c with floatClampImpl := x } r = ruleOf i { c with floatClampImpl := x' } r := by
  cases i with
  | fto32 f =>
    refine require_congr fun h => ?_
    have hbyte (ch : Chan) : chanByte { c with floatClampImpl := x } r.f0 ch
        = chanByte { c with floatClampImpl := x' } r.f0 ch := by
      rw [chanByte, chanByte, laneAt_laneOf c]
      exact laneByte_withFloatClampImpl c x x' (isNaN_chanLane ((allLanes_not_isNaN_iff _).mp h) c ch)
    rw [hbyte .a, hbyte .r, hbyte .g, hbyte .b]
    rfl
  | ext32 | pack32 | swaprb | ext565 | pack565 | ext4444 | pack4444 | widen | narrow | blend8 | scale255 | interp256
  | interp255 | srcover16 | lum | ffrom32 | flerp | fsrcover => rfl

end Sys2Proof.Machine
end

section
/-! The statements of 44_float.md on FFROM32, FTO32 and FLERP. -/

namespace Sys2Proof.Machine

open Sys2Proof.Statements

/-- Settles O51: the product with K_INV255 is non-decreasing, and 1.0 at 255. -/
theorem ffrom32ConvertsToFloats : Obligations.Ffrom32ConvertsToFloats := by
  refine ⟨fun c f r => ⟨by cases f <;> decide, ⟨.reservedFmt, by decide⟩, givesFloat_ffrom32 c f r⟩,
    by decide, byteFloat_255, fun n hn => ⟨value_u8ToF32 hn, ?_, fun m hm => ?_⟩⟩
  · rw [toNat_eq_sign_add, signBit_byteFloat hn]
    simpa using absBits_byteFloat_le hn
  · rw [value_of_positive (signBit_byteFloat (hm.trans hn)), value_of_positive (signBit_byteFloat hn)]
    exact_mod_cast bitsMagnitude_strictMono.monotone (absBits_byteFloat_mono hm hn)

/-- Settles O52: both builds give the byte nearest to 255 times the clamped lane. -/
theorem fto32ConvertsToBytes : Obligations.Fto32ConvertsToBytes := by
  refine ⟨fun c f r => ⟨by cases f <;> decide, ⟨.reservedFmt, by decide⟩, fun h => ?_, fun h => ?_⟩,
    fun v hv => ?_⟩
  · refine ⟨fun ch => laneByte c (chanLane c r.f0 ch), fun ch => ?_, givesInt_fto32 c f h⟩
    exact ⟨laneByte_le c (isNaN_chanLane h c ch), nearestByte_laneByte c (isNaN_chanLane h c ch)⟩
  · exact givesViolation_of_require rfl (Bool.eq_false_iff.mpr (mt (allLanes_not_isNaN_iff _).mp h))
  · exact value_clamp01 (by simpa [nanPattern_iff] using hv)

/-- Settles O53. -/
theorem flerpInterpolatesFloats : Obligations.FlerpInterpolatesFloats :=
  fun c _ => ⟨by decide, givesFloat_flerp c, givesViolation_flerp c⟩

/-- Settles O55: no rule gives another answer, because the byte of a lane that is no NaN is the same in both builds. -/
theorem clampAndSaturateGiveTheSameByte : Obligations.ClampAndSaturateGiveTheSameByte :=
  fun c x x' i r => result_eq_of_ruleOf_eq (ruleOf_withFloatClampImpl c x x' i r)

/-- Settles O56: each channel's byte comes back from its lane, and a word is the color of its channels. -/
theorem byteRoundTripThroughFloatsIsExact : Obligations.ByteRoundTripThroughFloatsIsExact := by
  intro c f p
  refine ⟨_, floatResult_of_givesFloat (givesFloat_ffrom32 c f _), ?_⟩
  have hle (ch : Chan) := chan32_le c f ch p
  have hvalid : EveryLane (fun x => ¬ NaNPattern x) (lanes c fun ch => byteFloat (chan32 c f ch p)) :=
    everyLane_lanes c fun ch => by simp [nanPattern_iff, not_isNaN_of_finite, absBits_byteFloat_lt, hle]
  have hgives := givesInt_fto32 c f (r := { Request.zero with f0 := lanes c fun ch => byteFloat (chan32 c f ch p) })
    hvalid
  simp only [chanLane_lanes, laneByte_byteFloat c (hle _), color32_chan32] at hgives
  rw [result_of_givesInt hgives, toBus_toNat_self]

/-- Settles O58: one product is exact and the other a zero, so the sum is exact but for the sign of a zero. -/
theorem flerpEndpointsAreExact : Obligations.FlerpEndpointsAreExact := by
  intro c s d hsource hdest
  have hs := laneAt_of_everyLane hsource
  have hd := laneAt_of_everyLane hdest
  refine ⟨(floatResult_of_givesFloat (givesFloat_flerp c ⟨inUnit_zero, hsource, hdest⟩)).trans ?_,
    (floatResult_of_givesFloat (givesFloat_flerp c ⟨inUnit_kOne, hsource, hdest⟩)).trans ?_,
    laneByte_eq_of_near c inUnit_zero (by decide), laneByte_eq_of_near c (.inr rfl) (by decide)⟩
  · exact congrArg (some ∘ fvecOf) (funext fun j => flerpLane_zero (hs j) (hd j))
  · exact congrArg (some ∘ fvecOf) (funext fun j => flerpLane_one (hs j) (hd j))

end Sys2Proof.Machine
end

section
/-! SUPPORT. A word decodes only to a command of the unit (30_encoding.md R88), whose rule never answers ILLEGAL. -/

namespace Sys2Proof

theorem chanOfCode_eq_a_iff : ∀ v : BitVec 2, chanOfCode v = .a ↔ v = 0 := by decide

/-- A row builds a command of the unit from every channel that is not reserved in it (R88). -/
theorem wf_build (f : Fmt) (c : Chan) (wd : Width) :
    ∀ row ∈ rows, (row.noAlpha = true → c ≠ .a) → (row.build f c wd).wf = true := by
  simp [rows, formatRows, precisionRows, blendRows, floatRows, Instr.wf]

/-- The check on CH = A keeps the one term that is no command out of a row's decoding. -/
theorem wf_of_decodeIn_eq_ok {row : Row} {w : CmdWord} {i : Instr} (hmem : row ∈ rows)
    (h : decodeIn row w = .ok i) : i.wf = true := by
  unfold decodeIn at h
  split_ifs at h with hmatch hfmt hwidth halpha
  obtain rfl := Except.ok.inj h
  refine wf_build _ _ _ row hmem fun hu hc => halpha ?_
  simpa [hu] using (chanOfCode_eq_a_iff _).mp hc

theorem wf_of_decode_eq_ok {w : CmdWord} {i : Instr} (h : decode w = .ok i) : i.wf = true := by
  unfold decode at h
  split at h
  case h_1 => exact absurd h (by simp)
  case h_2 row hrow => exact wf_of_decodeIn_eq_ok (List.mem_of_find?_eq_some hrow) h

end Sys2Proof

namespace Sys2Proof.Machine

open Sys2Proof.Statements

/-- The rule of a command of the unit names a result bus or finds a violation. -/
theorem ruleOf_ne_illegal {i : Instr} (hwf : i.wf = true) (c : Straps) (r : Request) :
    ruleOf i c r ≠ .illegal := by
  by_cases hfloat : hasFloatResult i
  · rcases ruleOf_of_hasFloatResult hfloat c r with ⟨fy, h⟩ | h <;> simp [h]
  · rcases ruleOf_of_not_hasFloatResult hwf hfloat c r with ⟨y, h⟩ | h <;> simp [h]

end Sys2Proof.Machine
end

section
/-! SUPPORT. The one answer a request gets, by its command's rule or ILLEGAL (60_exceptions.md R264), and the step that
gives it. -/

namespace Sys2Proof.Machine

open Sys2Proof.Statements

/-- The answer to a request: its command's rule gives it, or the word is rejected (R32, R261). -/
def answerTo (c : Straps) (r : Request) : Answer :=
  match decode r.cmd with
  | .ok i => ruleOf i c r
  | .error _ => .illegal

theorem answerTo_of_ok {r : Request} {i : Instr} (c : Straps) (h : decode r.cmd = .ok i) :
    answerTo c r = ruleOf i c r := by
  simp [answerTo, h]

theorem answerTo_of_error {r : Request} {e : IllegalWord} (c : Straps) (h : decode r.cmd = .error e) :
    answerTo c r = .illegal := by
  simp [answerTo, h]

theorem answerTo_eq_illegal_iff (c : Straps) (r : Request) : answerTo c r = .illegal ↔ Rejected r.cmd := by
  refine ⟨fun h => ?_, fun ⟨e, he⟩ => answerTo_of_error c he⟩
  cases hd : decode r.cmd with
  | error e => exact ⟨e, hd⟩
  | ok i => exact absurd ((answerTo_of_ok c hd).symm.trans h) (ruleOf_ne_illegal (wf_of_decode_eq_ok hd) c r)

theorem answerOldest_of_ready {s : State} {r : Request} {q : List Request}
    (hp : s.presented = none) (hf : s.inFlight = r :: q) :
    answerOldest s = .next (s.give q (answerTo s.straps r)) := by
  cases hd : decode r.cmd with
  | ok i => rw [answerOldest_of_ok hf hd, answerTo_of_ok _ hd, exec_of_ready i hp hf]
  | error e => rw [answerOldest_of_error hf hd, answerTo_of_error _ hd, answer_of_ready hp hf]

theorem violates_eq (c : Straps) (r : Request) : violates c r = decide (answerTo c r = .violation) := by
  have alone : answerOldest (lone c r) = .next ((lone c r).give [] (answerTo c r)) :=
    answerOldest_of_ready rfl rfl
  rw [violates, alone]
  cases h : answerTo c r <;> simp [Answer.faultAfter]

theorem State.withMoves_of_moves_eq {s : State} {ms : List Move} (h : s.moves = ms) : s.withMoves ms = s := by
  subst h
  rfl

/-- The step that answers uses up its move, if there is one, and gives the oldest request its answer. -/
theorem step_of_ready {s : State} {r : Request} {q : List Request} (hp : s.presented = none)
    (hf : s.inFlight = r :: q) (hm : s.moves = [] ∨ s.moves.head? = some .answer) :
    step s = .next ((s.withMoves s.moves.tail).give q (answerTo s.straps r)) := by
  cases hs : s.moves with
  | nil =>
    rw [step_of_no_move hs, List.tail_nil, State.withMoves_of_moves_eq hs, answerOldest_of_ready hp hf]
  | cons m ms =>
    obtain rfl : m = .answer := by simpa [hs] using hm
    exact (step_of_move hs).trans (answerOldest_of_ready hp hf)

/-- An answer that is neither ILLEGAL nor a violation has STATUS OK and records no fault. -/
theorem status_and_fault_of_ok {a : Answer} (hillegal : a ≠ .illegal) (hviolation : a ≠ .violation)
    (c : Straps) (n : Nat) (f : Option Fault) : (a.response c n).status = .ok ∧ a.faultAfter f = f := by
  cases a with
  | integer y => exact ⟨rfl, rfl⟩
  | float fy => exact ⟨rfl, rfl⟩
  | illegal => exact absurd rfl hillegal
  | violation => exact absurd rfl hviolation

end Sys2Proof.Machine
end

section
/-! The statements of 60_exceptions.md on the outcome of a response. -/

namespace Sys2Proof.Machine

open Sys2Proof.Statements

/-- Settles O8: a request has one answer, which is ILLEGAL, a violation or a result, and the outcome is read off it. -/
theorem oneOutcomeInPriorityOrder : Obligations.OneOutcomeInPriorityOrder := by
  refine ⟨⟨rfl, rfl, rfl, fun x => by cases x <;> decide⟩, fun s r q hp hf hm => ?_⟩
  refine ⟨_, _, step_of_ready hp hf hm, rfl, rfl, fun hrej => ?_, fun _ hv => ?_, fun hrej hv => ?_⟩
  · simp [(answerTo_eq_illegal_iff s.straps r).mpr hrej, Answer.faultAfter]
  · have hviolation : answerTo s.straps r = .violation := by simpa [violates_eq] using hv
    simp [hviolation, violationStatus_eq, Answer.faultAfter]
  · have hviolation : answerTo s.straps r ≠ .violation := by simpa [violates_eq] using hv
    exact status_and_fault_of_ok (mt (answerTo_eq_illegal_iff s.straps r).mp hrej) hviolation _ _ _

/-- Settles O7: the answer ILLEGAL carries zeros, records no fault and draws no free value. -/
theorem illegalWordIsAnswered : Obligations.IllegalWordIsAnswered := by
  refine ⟨rfl, fun s r q hp hf hrej => ?_⟩
  have hstep := step_of_ready hp hf
  rw [(answerTo_eq_illegal_iff s.straps r).mpr hrej] at hstep
  refine ⟨fun hm => ?_, fun ms hm => ?_⟩
  · have hkeep : s.withMoves s.moves.tail = s := State.withMoves_of_moves_eq (by simp [hm])
    rw [hstep (.inl hm), hkeep]
    rfl
  · rw [hstep (.inr (by simp [hm])), hm]
    rfl

end Sys2Proof.Machine
end

section
/-! SUPPORT. Running the first moves after a reset: a free unit with no request in flight accepts a request and answers
it (70_reset_and_hazards.md R290). -/

namespace Sys2Proof.Machine

theorem run_succ {s t : State} (k : Nat) (h : step s = .next t) :
    Host.Core.run core (k + 1) s = Host.Core.run core k t := by
  have hcore : core.step s = .next t := h
  simp only [Host.Core.run, hcore]

theorem loneResponse_eq (c : Straps) (r : Request) : loneResponse c r = some ((answerTo c r).response c 0) := by
  have alone : answerOldest (lone c r) = .next ((lone c r).give [] (answerTo c r)) :=
    answerOldest_of_ready rfl rfl
  simp [loneResponse, alone]

/-- A request that violates no precondition has the response it has alone, whatever free values have been drawn. -/
theorem response_answerTo_eq_loneResponse {c : Straps} {r : Request} (h : violates c r = false) (n : Nat) :
    some ((answerTo c r).response c n) = loneResponse c r := by
  have hviolation : answerTo c r ≠ .violation := by simpa [violates_eq] using h
  rw [loneResponse_eq, response_eq_of_not_violation hviolation c n 0]

/-- The step of a reset is `State.assertReset`, its move used up. -/
theorem step_of_reset {s : State} {ms : List Move} (h : s.moves = .reset :: ms) :
    step s = .next (s.withMoves ms).assertReset :=
  step_of_move h

/-- A free unit with no request in flight answers the request presented to it first. -/
theorem run_present_answer {s : State} {r : Request} {ms : List Move} (hp : s.presented = none)
    (hf : s.inFlight = []) (hm : s.moves = .present r :: .answer :: ms) :
    Host.Core.run core 2 s = .next ((s.withMoves ms).give [] (answerTo s.straps r)) := by
  have haccept : step s = .next ((s.withMoves (.answer :: ms)).accept r) := step_of_move hm
  have hanswer : step ((s.withMoves (.answer :: ms)).accept r)
      = .next ((s.withMoves ms).give [] (answerTo s.straps r)) :=
    step_of_ready hp (by simp [hf]) (.inr rfl)
  rw [run_succ 1 haccept, run_succ 0 hanswer]
  rfl

end Sys2Proof.Machine
end

section
/-! The statement of 70_reset_and_hazards.md on reset. -/

namespace Sys2Proof.Machine

/-- Settles O10: after the reset the unit is free, and answers the next request presented to it. -/
theorem resetDiscardsWhatIsInFlight : Obligations.ResetDiscardsWhatIsInFlight := by
  refine ⟨fun s ms hm => ⟨_, _, step_of_reset hm⟩, fun s r ms hm => ?_⟩
  refine ⟨_, (run_succ 2 (step_of_reset hm)).trans (run_present_answer rfl rfl rfl), rfl, rfl, fun hok => ?_⟩
  exact response_answerTo_eq_loneResponse hok _

end Sys2Proof.Machine
end

section
/-! SUPPORT. Decode and encode take each other back (30_encoding.md R81 to R88): an accepted word is the one word that
the qualifiers in its fields encode to. -/

namespace Sys2Proof

open Sys2Proof.Statements Sys2Proof.Machine

theorem mem_allFmts (f : Fmt) : f ∈ allFmts := by cases f <;> decide

theorem mem_allChans (c : Chan) : c ∈ allChans := by cases c <;> decide

theorem mem_allWidths (wd : Width) : wd ∈ allWidths := by cases wd <;> decide

/-- The format in the FMT field; the reserved value counts as the first. -/
def fmtIn (w : CmdWord) : Fmt := (fmtOfCode (fmtField w)).getD .pm

/-- The channel in the CH field. -/
def chanIn (w : CmdWord) : Chan := chanOfCode (chField w)

/-- The width in the W field; the reserved value counts as the first. -/
def widthIn (w : CmdWord) : Width := (widthOfCode (wField w)).getD .w4

theorem code_fmtOfCode : ∀ v : BitVec 2, v ≠ 3 → ((fmtOfCode v).getD .pm).code = v.setWidth 16 := by decide

theorem code_chanOfCode : ∀ v : BitVec 2, (chanOfCode v).code = v.setWidth 16 := by decide

theorem code_widthOfCode : ∀ v : BitVec 2, v ≠ 3 → ((widthOfCode v).getD .w4).code = v.setWidth 16 := by decide

/-- A row fixes the FMT and the W field to 0 unless it uses them (R87). -/
theorem rows_fix_unused_fields : ∀ row ∈ rows,
    (row.usesFmt = false → fmtField row.mask = 3 ∧ fmtField row.pattern = 0) ∧
    (row.usesW = false → wField row.mask = 3 ∧ wField row.pattern = 0) := by decide

/-- A two-bit field that a row fixes to 0 is 0 in every word that meets the row's mask and match. -/
theorem extractLsb'_eq_zero_of_fixed {w mask pattern : CmdWord} {lo : Nat} (hmatch : w &&& mask = pattern)
    (hmask : mask.extractLsb' lo 2 = 3) (hpattern : pattern.extractLsb' lo 2 = 0) : w.extractLsb' lo 2 = 0 :=
  calc w.extractLsb' lo 2
    _ = w.extractLsb' lo 2 &&& mask.extractLsb' lo 2 := by rw [hmask]; exact BitVec.and_allOnes.symm
    _ = (w &&& mask).extractLsb' lo 2 := BitVec.extractLsb'_and.symm
    _ = 0 := by rw [hmatch, hpattern]

/-- No row accepts the reserved FMT value: it uses the field and rejects the value, or fixes the field to 0. -/
theorem fmtField_ne_of_accepts {row : Row} {w : CmdWord} (hmem : row ∈ rows) (h : row.Accepts w) :
    fmtField w ≠ 3 := by
  cases hu : row.usesFmt with
  | true => exact h.fmt_ne hu
  | false =>
    obtain ⟨hmask, hpattern⟩ := (rows_fix_unused_fields row hmem).1 hu
    rw [fmtField, extractLsb'_eq_zero_of_fixed h.match_eq hmask hpattern]
    decide

/-- No row accepts the reserved W value: it uses the field and rejects the value, or fixes the field to 0. -/
theorem wField_ne_of_accepts {row : Row} {w : CmdWord} (hmem : row ∈ rows) (h : row.Accepts w) :
    wField w ≠ 3 := by
  cases hu : row.usesW with
  | true => exact h.width_ne hu
  | false =>
    obtain ⟨hmask, hpattern⟩ := (rows_fix_unused_fields row hmem).2 hu
    rw [wField, extractLsb'_eq_zero_of_fixed h.match_eq hmask hpattern]
    decide

/-- An accepted word is the row's OP and the codes of the qualifiers in its fields, and nothing else. -/
theorem eq_word_of_accepts {row : Row} {w : CmdWord} (hmem : row ∈ rows) (h : row.Accepts w) :
    w = word (row.op.setWidth 16) (chanIn w).code (fmtIn w).code (widthIn w).code := by
  rw [chanIn, fmtIn, widthIn, code_chanOfCode, code_fmtOfCode _ (fmtField_ne_of_accepts hmem h),
    code_widthOfCode _ (wField_ne_of_accepts hmem h), word, ← h.op_eq]
  conv_lhs => rw [word_of_fields w, rsvField_eq_zero_of_accepts hmem h]
  exact BitVec.or_zero

/-- The words of a row's qualifiers, by enumeration. -/
theorem encode_build_of_mem : ∀ row ∈ rows, ∀ f ∈ allFmts, ∀ c ∈ allChans, ∀ wd ∈ allWidths,
    word (row.op.setWidth 16) c.code f.code wd.code &&& row.mask = row.pattern →
      encode (row.build f c wd) = word (row.op.setWidth 16) c.code f.code wd.code := by decide

theorem build_of_decode_eq_ok {w : CmdWord} {i : Instr} (h : decode w = .ok i) :
    ∃ row ∈ rows, row.Accepts w ∧ i = row.build (fmtIn w) (chanIn w) (widthIn w) := by
  unfold decode at h
  split at h
  case h_1 => exact absurd h (by simp)
  case h_2 row hrow =>
    have hop : row.op = opField w := by simpa using List.find?_some hrow
    refine ⟨row, List.mem_of_find?_eq_some hrow, (accepts_of_decodeIn_eq_ok hop.symm h).1, ?_⟩
    unfold decodeIn at h
    split_ifs at h
    exact (Except.ok.inj h).symm

/-- A legal word is the encoding of its command: it meets its row's mask and match, and so holds no bit that the
command does not determine. -/
theorem encode_of_decode_eq_ok {w : CmdWord} {i : Instr} (h : decode w = .ok i) : encode i = w := by
  obtain ⟨row, hmem, hacc, rfl⟩ := build_of_decode_eq_ok h
  have hword := eq_word_of_accepts hmem hacc
  rw [encode_build_of_mem row hmem _ (mem_allFmts _) _ (mem_allChans _) _ (mem_allWidths _), ← hword]
  rw [← hword]
  exact hacc.match_eq

theorem decode_encode_of_mem : ∀ i ∈ allCommands, decode (encode i) = .ok i := by decide

/-- The list of commands leaves out only the channel A of RGB565 (R88). -/
theorem mem_allCommands {i : Instr} (hwf : i.wf = true) : i ∈ allCommands := by
  cases i with
  | ext32 f c => cases f <;> cases c <;> decide
  | ext565 c =>
    cases c with
    | a => simp [Instr.wf] at hwf
    | r | g | b => decide
  | ext4444 c => cases c <;> decide
  | pack32 f | srcover16 f | ffrom32 f | fto32 f => cases f <;> decide
  | widen w | narrow w => cases w <;> decide
  | swaprb | pack565 | pack4444 | blend8 | scale255 | interp256 | interp255 | lum | flerp | fsrcover => decide

theorem decode_encode {i : Instr} (hwf : i.wf = true) : decode (encode i) = .ok i :=
  decode_encode_of_mem i (mem_allCommands hwf)

/-- The encodings are distinct, for decode tells them apart. -/
theorem nodup_map_encode : (allCommands.map encode).Nodup := by
  refine List.Nodup.map_on (fun i hi j hj h => ?_) (by decide)
  rw [← Except.ok.injEq (ε := IllegalWord), ← decode_encode_of_mem i hi, h, decode_encode_of_mem j hj]

end Sys2Proof
end

section
/-! The statements of 30_encoding.md on decode and encode together. -/

namespace Sys2Proof

open Sys2Proof.Machine

/-- Settles O2: a row that accepts a word takes its command's encoding from the word's fields. -/
theorem decodeAndEncodeAgree : Obligations.DecodeAndEncodeAgree := by
  refine fun w i => ⟨fun h => ⟨wf_of_decode_eq_ok h, encode_of_decode_eq_ok h⟩, ?_⟩
  rintro ⟨hwf, rfl⟩
  exact decode_encode hwf

/-- Settles O3: the legal words are the encodings, by `decodeAndEncodeAgree`. -/
theorem fortySevenWordsAreLegal : Obligations.FortySevenWordsAreLegal := by
  refine ⟨rfl, nodup_map_encode, fun i => mem_allCommands, fun w => ?_⟩
  rw [List.mem_map]
  constructor
  · rintro ⟨i, h⟩
    exact ⟨i, mem_allCommands (wf_of_decode_eq_ok h), encode_of_decode_eq_ok h⟩
  · rintro ⟨i, hi, rfl⟩
    exact ⟨i, decode_encode_of_mem i hi⟩

/-- Settles O1: the decoder run on the ten words. -/
theorem decodeSampleWords : Obligations.DecodeSampleWords := by
  unfold Obligations.DecodeSampleWords
  decide

end Sys2Proof
end

section
/-! SUPPORT. All that a step can do: the moves of the interface, the unit's answer, and waiting. -/

namespace Sys2Proof.Machine

open Sys2Proof.Statements

/-- A step from the state is one that answers: its move is an answer, or it has none (log entry 10). -/
def State.Answering (s : State) : Prop := s.moves = [] ∨ s.moves.head? = some .answer

/-- The states a step leads to, by what happens in it. -/
inductive StepsTo (s : State) : State → Prop
  /-- The unit answers the oldest request in flight. -/
  | answered {r : Request} {q : List Request} (hm : s.Answering) (hp : s.presented = none)
      (hf : s.inFlight = r :: q) : StepsTo s ((s.withMoves s.moves.tail).give q (answerTo s.straps r))
  /-- There is nothing to answer, or the response buses are busy. -/
  | waited (hm : s.Answering) (hw : s.inFlight = [] ∨ s.presented ≠ none) : StepsTo s (s.withMoves s.moves.tail)
  /-- The host presents a request and the unit accepts it. -/
  | accepted {r : Request} {ms : List Move} (hm : s.moves = .present r :: ms) :
      StepsTo s ((s.withMoves ms).accept r)
  /-- The host takes the presented response, if there is one. -/
  | taken {ms : List Move} (hm : s.moves = .take :: ms) : StepsTo s (s.withMoves ms).take
  /-- The host resets the unit. -/
  | reset {ms : List Move} (hm : s.moves = .reset :: ms) : StepsTo s (s.withMoves ms).assertReset

/-- A command waits for a request and for the response buses (R66, R274). -/
theorem exec_of_waiting (i : Instr) {s : State} (hw : s.inFlight = [] ∨ s.presented ≠ none) : exec i s = .next s := by
  rw [exec_eq_answer]
  rcases hw with hf | hp
  · exact answer_of_idle hf
  · obtain ⟨p, hp⟩ := Option.ne_none_iff_exists'.mp hp
    exact answer_of_busy hp

theorem answerOldest_of_waiting {s : State} (hw : s.inFlight = [] ∨ s.presented ≠ none) :
    answerOldest s = .next s := by
  cases hf : s.inFlight with
  | nil => exact answerOldest_of_idle hf
  | cons r q =>
    obtain ⟨p, hp⟩ := Option.ne_none_iff_exists'.mp (hw.resolve_left (by simp [hf]))
    obtain ⟨rule, hrule⟩ := answerOldest_by_rule r
    rw [hrule s q hf, answer_of_busy hp]

/-- A step that answers is the unit's own move, the move that called for it used up. -/
theorem step_of_answering {s : State} (hm : s.Answering) : step s = answerOldest (s.withMoves s.moves.tail) := by
  cases hs : s.moves with
  | nil => rw [step_of_no_move hs, List.tail_nil, State.withMoves_of_moves_eq hs]
  | cons m ms =>
    obtain rfl : m = .answer := by simpa [State.Answering, hs] using hm
    exact step_of_move hs

/-- Every state has a next one (R262, R267): no step stops the unit. -/
theorem exists_stepsTo (s : State) : ∃ t, step s = .next t ∧ StepsTo s t := by
  have answering (hm : s.Answering) : ∃ t, step s = .next t ∧ StepsTo s t := by
    by_cases hw : s.inFlight = [] ∨ s.presented ≠ none
    · exact ⟨_, (step_of_answering hm).trans (answerOldest_of_waiting hw), .waited hm hw⟩
    · obtain ⟨hne, hp⟩ := not_or.mp hw
      obtain ⟨r, q, hf⟩ := List.exists_cons_of_ne_nil hne
      exact ⟨_, step_of_ready (not_not.mp hp) hf hm, .answered hm (not_not.mp hp) hf⟩
  cases hm : s.moves with
  | nil => exact answering (.inl hm)
  | cons m ms =>
    cases m with
    | present r => exact ⟨_, step_of_move hm, .accepted hm⟩
    | answer => exact answering (.inr (by simp [hm]))
    | take => exact ⟨_, step_of_move hm, .taken hm⟩
    | reset => exact ⟨_, step_of_move hm, .reset hm⟩

theorem stepsTo_of_step {s t : State} (h : step s = .next t) : StepsTo s t := by
  obtain ⟨t', hstep, hto⟩ := exists_stepsTo s
  obtain rfl : t = t' := by simpa [h] using hstep
  exact hto

end Sys2Proof.Machine
end

section
/-! SUPPORT. The invariant of the responses given (60_exceptions.md R261 to R263; 10_state.md R37), response by
response. -/

namespace Sys2Proof.Machine

open Sys2Proof.Statements

/-- What the invariant says of one response, in a run with check mode `m` and fault record `f`. -/
def ResponseSound (m : CheckMode) (f : Option Fault) (p : Response) : Prop :=
  (p.status = .illegal → p.y = 0 ∧ p.fy = ⟨0, 0, 0, 0⟩) ∧
  (p.status = .precond → m = .debug ∧ f = some .preconditionViolated) ∧
  (f = none → p.y = 0 ∨ p.fy = ⟨0, 0, 0, 0⟩)

theorem responsesInv_iff (s : State) : ResponsesInv s ↔
    (∀ p ∈ s.taken, ResponseSound s.straps.checkMode s.fault p) ∧
      ∀ p ∈ s.presented, ResponseSound s.straps.checkMode s.fault p := by
  change (∀ p ∈ s.taken ++ s.presented.toList, ResponseSound s.straps.checkMode s.fault p) ↔ _
  simp only [List.forall_mem_append, Option.mem_toList, Option.mem_def]

/-- The response of an answer, and the record it leaves. -/
theorem responseSound_response (a : Answer) (c : Straps) (n : Nat) (f : Option Fault) :
    ResponseSound c.checkMode (a.faultAfter f) (a.response c n) := by
  cases a with
  | integer y => simp [ResponseSound, FVec.zero]
  | float fy => simp [ResponseSound]
  | illegal => simp [ResponseSound, FVec.zero]
  | violation => cases hm : c.checkMode <;> simp [ResponseSound, Answer.faultAfter, violationStatus, hm]

/-- An answer keeps a recorded fault, of which there is one kind (R263). -/
theorem faultAfter_of_recorded (a : Answer) {f : Option Fault} {x : Fault} (h : f = some x) :
    a.faultAfter f = some x := by
  subst h
  cases a <;> rfl

/-- An earlier response stays sound, because no answer clears the record. -/
theorem responseSound_faultAfter {m : CheckMode} {f : Option Fault} {p : Response} (a : Answer)
    (h : ResponseSound m f p) : ResponseSound m (a.faultAfter f) p := by
  obtain ⟨hillegal, hprecond, hbus⟩ := h
  exact ⟨hillegal, fun hp => (hprecond hp).imp_right (faultAfter_of_recorded a),
    fun hf => hbus (faultAfter_eq_none hf).1⟩

end Sys2Proof.Machine
end

section
/-! The statements of 10_state.md, 20_memory.md, 60_exceptions.md and 70_reset_and_hazards.md on every step. -/

namespace Sys2Proof.Machine

open Sys2Proof.Statements

/-- Settles O18: an answer adds a sound response and keeps the record, and the other moves only regroup or drop
responses. -/
theorem everyStepKeepsTheResponsesInvariant : Obligations.EveryStepKeepsTheResponsesInvariant := by
  intro s t hinv hstep
  rw [responsesInv_iff] at hinv ⊢
  obtain ⟨htaken, hpresented⟩ := hinv
  cases stepsTo_of_step hstep with
  | answered hm hp hf =>
    refine ⟨fun p hp => responseSound_faultAfter _ (htaken p hp), fun p hp => ?_⟩
    obtain rfl := Option.mem_some_iff.mp hp
    exact responseSound_response _ _ _ _
  | waited hm hw => exact ⟨htaken, hpresented⟩
  | accepted hm => exact ⟨htaken, hpresented⟩
  | taken hm =>
    refine ⟨fun p hp => ?_, by simp⟩
    rcases List.mem_append.mp hp with hp | hp
    · exact htaken p hp
    · exact hpresented p (Option.mem_toList.mp hp)
  | reset hm => exact ⟨htaken, by simp⟩

/-- Settles O9. -/
theorem everyStepAnswersANextState : Obligations.EveryStepAnswersANextState := by
  intro s
  obtain ⟨t, hstep, -⟩ := exists_stepsTo s
  exact ⟨t, hstep⟩

/-- Settles O13: no operation of the interface writes the straps. -/
theorem strapsNeverChange : Obligations.StrapsNeverChange := by
  intro s t hstep
  cases stepsTo_of_step hstep <;> rfl

/-- Settles O14: an answer alone writes the record, and only that of a violation writes a fault where there was none. -/
theorem faultIsNeverCleared : Obligations.FaultIsNeverCleared := by
  intro s t hstep
  cases stepsTo_of_step hstep with
  | @answered r q hm hp hf =>
    refine ⟨fun f => faultAfter_of_recorded _, fun hnone hfault => ⟨r, q, hf, rfl, ?_⟩⟩
    have hviolation : answerTo s.straps r = .violation := by
      by_contra hne
      exact hfault ((faultAfter_eq_none_iff _ _).mpr ⟨hnone, hne⟩)
    simp [violates_eq, hviolation]
  | waited | accepted | taken | reset => exact ⟨fun f hf => hf, fun hnone hfault => absurd hnone hfault⟩

/-- Settles O21: a command answers the oldest request or changes nothing. -/
theorem commandsLeaveTheRestUnchanged : Obligations.CommandsLeaveTheRestUnchanged := by
  intro i s t hexec
  rw [exec_eq_answer] at hexec
  rcases answer_cases (ruleOf i) s with ⟨r, q, hp, hf, hgive⟩ | ⟨-, hwait⟩
  · obtain rfl : s.give q (ruleOf i s.straps r) = t := by simpa [hgive] using hexec
    exact ⟨rfl, rfl, rfl, rfl, .inr ⟨r, _, hp, hf, rfl⟩⟩
  · obtain rfl : s = t := by simpa [hwait] using hexec
    exact ⟨rfl, rfl, rfl, rfl, .inl rfl⟩

/-- Settles O6: a step that answers is the unit's own move, which executes a word that decodes. -/
theorem stepRunsTheDecodedCommand : Obligations.StepRunsTheDecodedCommand := by
  refine ⟨fun s r q i hf hd => ⟨fun hm => ?_, fun ms hm => ?_⟩, fun s nbits w i hd => ?_⟩
  · exact (step_of_no_move hm).trans (answerOldest_of_ok hf hd)
  · exact (step_of_move hm).trans (answerOldest_of_ok hf hd)
  · have hm : (s.withFetchWord nbits w).moves = .answer :: s.moves := rfl
    have hf : ((s.withFetchWord nbits w).withMoves s.moves).inFlight
        = { s.oldest with cmd := BitVec.ofNat 16 (w % 2 ^ nbits) } :: s.inFlight.tail := rfl
    exact (step_of_move hm).trans (answerOldest_of_ok hf hd)

/-- Settles O11. -/
theorem acceptingAndTakingKeepOrder : Obligations.AcceptingAndTakingKeepOrder := by
  refine ⟨fun s r ms hm => step_of_move hm, fun s p ms hm hp => ?_, fun s ms hm hp => ?_⟩
  · simp [step_of_move hm, State.take, State.withMoves, hp]
  · simp [step_of_move hm, State.take, State.withMoves, hp]

/-- Settles O19: no response has been given. -/
theorem resetMeetsTheResponsesInvariant : Obligations.ResetMeetsTheResponsesInvariant :=
  have hreset (c : Straps) : ResponsesInv (State.resetWith c) := (responsesInv_iff _).mpr ⟨by simp, by simp⟩
  ⟨hreset, hreset Config.straps⟩

/-- Settles O20. -/
theorem commandsWaitForARequestAndTheBuses : Obligations.CommandsWaitForARequestAndTheBuses :=
  fun i _ => exec_of_waiting i

/-- Settles O22: the first request is answered from the state right after reset, and its STATUS depends on no free
value. -/
theorem resetStateIsReady : Obligations.ResetStateIsReady := by
  refine fun c => ⟨rfl, rfl, rfl, rfl, fun r => ?_⟩
  have hrun := run_present_answer (s := { State.resetWith c with moves := [.present r, .answer] }) rfl rfl rfl
  refine ⟨_, _, hrun, rfl, rfl, ?_, fun hok => ?_⟩
  · rw [loneResponse_eq]
    exact congrArg some (response_status_eq _ _ _ _)
  · exact (response_answerTo_eq_loneResponse hok _).symm

end Sys2Proof.Machine
end

section
/-! SUPPORT. What a run without a reset has made of its requests (20_memory.md R66, R67; 70_reset_and_hazards.md R297),
and the run that presents, answers and takes them one by one. -/

namespace Sys2Proof.Machine

open Sys2Proof.Statements

/-- The response is one the request can get, for some count of free values. -/
def Answers (c : Straps) (r : Request) (p : Response) : Prop := ∃ n, (answerTo c r).response c n = p

/-- The responses given so far answer `done`, one each and in order, and a fault is recorded if one of them violates a
precondition. -/
structure HasAnswered (c : Straps) (done : List Request) (s : State) : Prop where
  responses : List.Forall₂ (Answers c) done (s.taken ++ s.presented.toList)
  fault_iff : s.fault = none ↔ ∀ r ∈ done, violates c r = false

/-- The invariant of a run of the requests `rs` without a reset: those that are not answered are in flight or still to
be presented, in order. -/
structure RunInv (c : Straps) (rs : List Request) (s : State) : Prop where
  straps_eq : s.straps = c
  no_reset : Move.reset ∉ s.moves
  answered : ∃ done, rs = done ++ (s.inFlight ++ requestsOf s.moves) ∧ HasAnswered c done s

/-- Using up an answer, or no move, presents nothing. -/
theorem requestsOf_tail {s : State} (hm : s.Answering) : requestsOf s.moves.tail = requestsOf s.moves := by
  cases hs : s.moves with
  | nil => rfl
  | cons m ms =>
    obtain rfl : m = .answer := by simpa [State.Answering, hs] using hm
    rfl

/-- The answer to the oldest request makes it the last of those answered. -/
theorem hasAnswered_give {c : Straps} {done q : List Request} {r : Request} {s : State} (h : HasAnswered c done s)
    (hp : s.presented = none) (hc : s.straps = c) : HasAnswered c (done ++ [r]) (s.give q (answerTo c r)) := by
  subst hc
  obtain ⟨hresponses, hfault⟩ := h
  rw [hp, Option.toList_none, List.append_nil] at hresponses
  constructor
  · exact List.rel_append hresponses (.cons ⟨_, rfl⟩ .nil)
  · simp [faultAfter_eq_none_iff, hfault, violates_eq, or_imp, forall_and]

theorem runInv_of_stepsTo {c : Straps} {rs : List Request} {s t : State} (h : RunInv c rs s) (hto : StepsTo s t) :
    RunInv c rs t := by
  obtain ⟨hc, hreset, done, hrs, hdone⟩ := h
  have htail : Move.reset ∉ s.moves.tail := mt List.mem_of_mem_tail hreset
  cases hto with
  | @answered r q hm hp hf =>
    refine ⟨hc, htail, done ++ [r], ?_, ?_⟩
    · simp [hrs, hf, requestsOf_tail hm]
    · rw [hc]
      exact hasAnswered_give (s := s.withMoves s.moves.tail) ⟨hdone.responses, hdone.fault_iff⟩ hp hc
  | waited hm hw =>
    exact ⟨hc, htail, done, by simp [hrs, requestsOf_tail hm], ⟨hdone.responses, hdone.fault_iff⟩⟩
  | @accepted r ms hm =>
    rw [hm] at htail
    exact ⟨hc, htail, done, by simp [hrs, hm], ⟨hdone.responses, hdone.fault_iff⟩⟩
  | @taken ms hm =>
    rw [hm] at htail
    exact ⟨hc, htail, done, by simp [hrs, hm], ⟨by simpa using hdone.responses, hdone.fault_iff⟩⟩
  | @reset ms hm => simp [hm] at hreset

theorem runInv_of_run {c : Straps} {rs : List Request} (k : Nat) {s t : State} (h : RunInv c rs s)
    (hrun : Host.Core.run core k s = .next t) : RunInv c rs t := by
  induction k generalizing s with
  | zero =>
    obtain rfl : s = t := Host.Outcome.next.inj hrun
    exact h
  | succ k ih =>
    obtain ⟨s', hstep, hto⟩ := exists_stepsTo s
    exact ih (runInv_of_stepsTo h hto) ((run_succ k hstep).symm.trans hrun)

/-- Right after reset no request is answered. -/
theorem runInv_resetWith (c : Straps) {ms : List Move} (h : Move.reset ∉ ms) :
    RunInv c (requestsOf ms) { State.resetWith c with moves := ms } :=
  ⟨rfl, h, [], rfl, .nil, by simp⟩

/-- A response has the STATUS the request has alone. -/
theorem status_of_answers {c : Straps} {r : Request} {p : Response} (h : Answers c r p) :
    some p.status = (loneResponse c r).map fun p => p.status := by
  obtain ⟨n, rfl⟩ := h
  rw [loneResponse_eq]
  exact congrArg some (response_status_eq _ _ _ _)

/-- The response to a request that violates no precondition is the one it has alone. -/
theorem eq_loneResponse_of_answers {c : Straps} {r : Request} {p : Response} (h : Answers c r p)
    (hok : violates c r = false) : some p = loneResponse c r := by
  obtain ⟨n, rfl⟩ := h
  exact response_answerTo_eq_loneResponse hok n

/-- At the end of a run all its requests are those answered. -/
theorem answersAll_of_ended {c : Straps} {rs : List Request} {t : State} (h : RunInv c rs t) (hend : t.Ended) :
    AnswersAll c rs t := by
  have ⟨hmoves, hflight, _⟩ := hend
  obtain ⟨-, -, done, hrs, hresponses, hfault⟩ := h
  obtain rfl : rs = done := by simpa [hmoves, hflight] using hrs
  refine ⟨?_, fun n r hr hok => ?_, ?_⟩
  · rw [← List.forall₂_eq_eq_eq, List.forall₂_map_left_iff, List.forall₂_map_right_iff]
    exact hresponses.flip.imp fun p r => status_of_answers
  · obtain ⟨hn, rfl⟩ := List.getElem?_eq_some_iff.mp hr
    rw [List.getElem?_eq_getElem (hresponses.length_eq ▸ hn)]
    exact eq_loneResponse_of_answers (hresponses.get hn _) hok
  · simp [State.EndedSuccessfully, hend, hfault]

/-- A free unit with no request in flight runs through the requests presented one by one. -/
theorem run_oneByOne (rs : List Request) {s : State} (hf : s.inFlight = []) (hp : s.presented = none)
    (hm : s.moves = oneByOne rs) :
    ∃ t, Host.Core.run core (3 * rs.length) s = .next t ∧ t.moves = [] ∧ t.inFlight = [] ∧ t.presented = none ∧
      t.discarded = s.discarded := by
  induction rs generalizing s with
  | nil => exact ⟨s, rfl, hm, hf, hp, rfl⟩
  | cons r rs ih =>
    have haccept : step s = .next ((s.withMoves (.answer :: .take :: oneByOne rs)).accept r) := step_of_move hm
    have hanswer := step_of_ready (s := (s.withMoves (.answer :: .take :: oneByOne rs)).accept r) (r := r) (q := [])
      hp (by simp [hf]) (.inr rfl)
    have htake := step_of_move (s := ((s.withMoves (.take :: oneByOne rs)).accept r).give [] (answerTo s.straps r))
      (m := .take) (ms := oneByOne rs) rfl
    obtain ⟨t, hrun, ht⟩ := ih (s := (((s.withMoves (oneByOne rs)).accept r).give [] (answerTo s.straps r)).take)
      rfl rfl rfl
    refine ⟨t, ?_, ht⟩
    rw [List.length_cons, Nat.mul_succ, run_succ _ haccept, run_succ _ hanswer]
    exact (run_succ _ htake).trans hrun

theorem requestsOf_oneByOne (rs : List Request) : requestsOf (oneByOne rs) = rs := by
  induction rs with
  | nil => rfl
  | cons r rs ih => exact congrArg (r :: ·) ih

theorem reset_notMem_oneByOne (rs : List Request) : Move.reset ∉ oneByOne rs := by simp [oneByOne]

end Sys2Proof.Machine
end

section
/-! The statement of 70_reset_and_hazards.md on the end of a run. -/

namespace Sys2Proof.Machine

open Sys2Proof.Statements

/-- Settles O15: every step but a reset keeps `RunInv`. -/
theorem everyRunAnswersAllItsRequests : Obligations.EveryRunAnswersAllItsRequests := by
  have answersAll {c : Straps} {ms : List Move} {k : Nat} {t : State} (hreset : Move.reset ∉ ms)
      (hrun : Host.Core.run core k ({ State.resetWith c with moves := ms } : State) = .next t) (hend : t.Ended) :
      AnswersAll c (requestsOf ms) t :=
    answersAll_of_ended (runInv_of_run k (runInv_resetWith c hreset) hrun) hend
  refine ⟨fun c ms k t => answersAll, fun c rs => ?_⟩
  obtain ⟨t, hrun, hm, hf, hp, hd⟩ := run_oneByOne rs (s := { State.resetWith c with moves := oneByOne rs }) rfl rfl rfl
  have hend : t.Ended := ⟨by rw [hm]; rfl, hf, hd⟩
  exact ⟨t, hrun, hend, hp, requestsOf_oneByOne rs ▸ answersAll (reset_notMem_oneByOne rs) hrun hend⟩

end Sys2Proof.Machine
end

section
/-! SUPPORT. Rounding to binary32 gives the nearest pattern, ties to even, and an infinity from half a last place above
the largest finite magnitude on (44_float.md R221). -/

namespace Sys2Proof.Machine

open Sys2Proof.Statements

/-- A tie is rounded to even. -/
theorem roundEven_even_of_tie {n sh : Nat}
    (h : 2 * n = 2 * (roundEven n sh * 2 ^ sh) + 2 ^ sh ∨ 2 * (roundEven n sh * 2 ^ sh) = 2 * n + 2 ^ sh) :
    roundEven n sh % 2 = 0 := by
  have hdiv := Nat.div_add_mod' n (2 ^ sh)
  have hlt := Nat.mod_lt n (Nat.two_pow_pos sh)
  revert h
  simp only [roundEven, Nat.shiftRight_eq_div_pow, Nat.shiftLeft_eq, one_mul]
  split_ifs with hup
  · rw [add_one_mul]
    omega
  · omega

/-- The distance of two natural numbers. -/
def gap (m n : Nat) : Nat := ((m : Int) - n).natAbs

/-- The rounded number is the nearest multiple of the last place, and even where another is as near. -/
theorem roundEven_nearest (n sh p : Nat) :
    gap n (roundEven n sh * 2 ^ sh) ≤ gap n (p * 2 ^ sh) ∧
      (gap n (roundEven n sh * 2 ^ sh) = gap n (p * 2 ^ sh) → p = roundEven n sh ∨ roundEven n sh % 2 = 0) := by
  have herror := roundEven_error n sh
  have htie := roundEven_even_of_tie (n := n) (sh := sh)
  have hstep {a b : Nat} (hlt : a < b) : a * 2 ^ sh + 2 ^ sh ≤ b * 2 ^ sh := by
    rw [← add_one_mul]
    exact Nat.mul_le_mul_right _ hlt
  generalize roundEven n sh = q at *
  unfold gap
  obtain hlt | rfl | hlt := lt_trichotomy p q
  · have hbelow := hstep hlt
    omega
  · exact ⟨le_rfl, fun _ => .inl rfl⟩
  · have habove := hstep hlt
    omega

/-- A magnitude is a multiple of the last place that rounding keeps, or lies below the normal range of that last place,
which the rounded number does not. -/
theorem bitsMagnitude_on_grid (n k b : Nat) :
    (∃ p, bitsMagnitude b * 2 ^ k = p * 2 ^ roundShift n k) ∨
      (bitsMagnitude b * 2 ^ k < 2 ^ 23 * 2 ^ roundShift n k ∧ 2 ^ 23 * 2 ^ roundShift n k ≤ n) := by
  have hmul : bitsMagnitude b * 2 ^ k = significand b * 2 ^ (ulpExp b + k) := by
    rw [bitsMagnitude, mul_assoc, ← pow_add]
  rw [hmul]
  by_cases hle : roundShift n k ≤ ulpExp b + k
  · refine .inl ⟨significand b * 2 ^ (ulpExp b + k - roundShift n k), ?_⟩
    rw [mul_assoc, ← pow_add, Nat.sub_add_cancel hle]
  · refine .inr ⟨?_, (roundShift_eq_or_le n k).resolve_left (by omega)⟩
    calc significand b * 2 ^ (ulpExp b + k)
      _ < 2 ^ 24 * 2 ^ (ulpExp b + k) := Nat.mul_lt_mul_of_pos_right (significand_lt b) (Nat.two_pow_pos _)
      _ = 2 ^ 23 * 2 ^ (ulpExp b + k + 1) := by ring
      _ ≤ 2 ^ 23 * 2 ^ roundShift n k := Nat.mul_le_mul_left _ (Nat.pow_le_pow_right (by decide) (by omega))

/-- The absolute bits and the rounded significand are both even or both odd. -/
theorem uncappedBits_mod_two (n k : Nat) : uncappedBits n k % 2 = roundEven n (roundShift n k) % 2 := by
  unfold uncappedBits
  omega

/-- Without an upper bound on the exponent, the rounded magnitude is the nearest, and its bits are even where another is
as near. -/
theorem uncappedBits_nearest (n k b : Nat) :
    gap n (bitsMagnitude (uncappedBits n k) * 2 ^ k) ≤ gap n (bitsMagnitude b * 2 ^ k) ∧
      (gap n (bitsMagnitude (uncappedBits n k) * 2 ^ k) = gap n (bitsMagnitude b * 2 ^ k) →
        b = uncappedBits n k ∨ uncappedBits n k % 2 = 0) := by
  rw [uncappedBits_mod_two, bitsMagnitude_uncappedBits]
  rcases bitsMagnitude_on_grid n k b with ⟨p, hp⟩ | ⟨hlow, hn⟩
  · rw [hp]
    obtain ⟨hle, htie⟩ := roundEven_nearest n (roundShift n k) p
    refine ⟨hle, fun heq => (htie heq).imp_left fun hpq => ?_⟩
    apply bitsMagnitude_strictMono.injective
    apply Nat.eq_of_mul_eq_mul_right (Nat.two_pow_pos k)
    rw [hp, hpq, bitsMagnitude_uncappedBits]
  · have hnear := (roundEven_nearest n (roundShift n k) (2 ^ 23)).1
    unfold gap at hnear ⊢
    omega

/-- A significand is rounded up to 2^24 from half a last place below it on: the tie is with 2^24 - 1, which is odd. -/
theorem roundEven_lt_two_pow_iff (n m : Nat) : roundEven n (m + 1) < 2 ^ 24 ↔ n < (2 ^ 25 - 1) * 2 ^ m := by
  have herror := roundEven_error n (m + 1)
  have htie := roundEven_even_of_tie (n := n) (sh := m + 1)
  have hpow : 2 ^ (m + 1) = 2 * 2 ^ m := pow_succ' 2 m
  constructor
  · intro hlt
    by_contra hn
    have hle : 2 ^ 24 - 1 ≤ roundEven n (m + 1) := le_roundEven (by omega)
    have heq : roundEven n (m + 1) = 2 ^ 24 - 1 := by omega
    rw [heq] at herror htie
    omega
  · intro hn
    have hle : roundEven n (m + 1) ≤ 2 ^ 24 := roundEven_le (by omega)
    refine lt_of_le_of_ne hle fun heq => ?_
    rw [heq] at herror
    omega

/-- Rounding overflows from half a last place above the largest finite magnitude on: below the last place of that
magnitude there is room, above it none, and at it the significand decides. -/
theorem uncappedBits_lt_infBits_iff (n k : Nat) : uncappedBits n k < infBits ↔ n < (2 ^ 25 - 1) * 2 ^ (252 + k) := by
  have hround := roundEven_roundShift_le n k
  have hnormal (h : roundShift n k ≠ k) : 2 ^ 23 * 2 ^ roundShift n k ≤ n :=
    (roundShift_eq_or_le n k).resolve_left h
  unfold uncappedBits infBits
  obtain hlt | heq | hgt := lt_trichotomy (roundShift n k) (252 + k + 1)
  · have hn := lt_two_pow_roundShift n k
    have hpow : 2 ^ roundShift n k ≤ 2 ^ (252 + k) := Nat.pow_le_pow_right (by decide) (by omega)
    omega
  · rw [← roundEven_lt_two_pow_iff, ← heq]
    omega
  · have hn := hnormal (by omega)
    have hsig : 2 ^ 23 ≤ roundEven n (roundShift n k) := le_roundEven hn
    have hpow : 2 ^ (252 + k + 2) ≤ 2 ^ roundShift n k := Nat.pow_le_pow_right (by decide) hgt
    rw [pow_add] at hpow
    omega

theorem roundBits_eq_uncappedBits {n k : Nat} (h : n < (2 ^ 25 - 1) * 2 ^ (252 + k)) :
    roundBits n k = uncappedBits n k :=
  min_eq_left ((uncappedBits_lt_infBits_iff n k).mpr h).le

theorem roundBits_eq_infBits {n k : Nat} (h : ¬ n < (2 ^ 25 - 1) * 2 ^ (252 + k)) : roundBits n k = infBits :=
  min_eq_right (not_lt.mp (mt (uncappedBits_lt_infBits_iff n k).mp h))

theorem finitePattern_iff (x : Word) : FinitePattern x ↔ absBits x < infBits := Iff.rfl

/-- The parity of a pattern is that of its absolute bits. -/
theorem toNat_mod_two (x : Word) : x.toNat % 2 = absBits x % 2 := by
  unfold absBits
  omega

/-- The signed distance is never less than that of the magnitudes, and equal to it on one side of 0. -/
theorem gap_le_natAbs_sub (e v : Int) : gap e.natAbs v.natAbs ≤ (e - v).natAbs := by
  unfold gap
  omega

theorem natAbs_sub_of_side {e v : Int} (hside : (0 ≤ e → 0 ≤ v) ∧ (e ≤ 0 → v ≤ 0)) :
    (e - v).natAbs = gap e.natAbs v.natAbs := by
  unfold gap
  omega

/-- Two numbers of the same magnitude, as far from `e`, are one if the first lies on the side of `e`. -/
theorem eq_of_side_of_natAbs_eq {e v w : Int} (hside : (0 ≤ e → 0 ≤ v) ∧ (e ≤ 0 → v ≤ 0))
    (hdist : (e - v).natAbs = (e - w).natAbs) (habs : v.natAbs = w.natAbs) : v = w := by
  obtain rfl | rfl := Int.natAbs_eq_natAbs_iff.mp habs
  · rfl
  · omega

section
variable {e : Int} {neg : Bool} (hsign : e ≠ 0 → neg = decide (e < 0)) (k : Nat)
include hsign

/-- The rounded number lies on the number's side of 0. -/
theorem value_roundPack_sign :
    (0 ≤ e → 0 ≤ value (roundPack neg e.natAbs k)) ∧ (e ≤ 0 → value (roundPack neg e.natAbs k) ≤ 0) := by
  obtain hlt | rfl | hgt := lt_trichotomy e 0
  · have hneg : neg = true := by rw [hsign hlt.ne, decide_eq_true hlt]
    rw [value_of_negative ((signBit_roundPack _ _ _).trans hneg)]
    omega
  · have hzero : value (roundPack neg (Int.natAbs 0) k) = 0 := by
      rw [value_eq_zero_iff, absBits_roundPack, Int.natAbs_zero, roundBits_zero]
    omega
  · have hneg : neg = false := by rw [hsign hgt.ne', decide_eq_false hgt.le.not_gt]
    rw [value_of_positive ((signBit_roundPack _ _ _).trans hneg)]
    omega

/-- Below the overflow the pattern of a number's rounded magnitude, with its sign, is the nearest one: no pattern is
nearer than its magnitude is to the number's. -/
theorem roundPack_nearest (hfinite : e.natAbs < (2 ^ 25 - 1) * 2 ^ (252 + k)) (w : Word) :
    let z := roundPack neg e.natAbs k
    (e - value z * 2 ^ k).natAbs ≤ (e - value w * 2 ^ k).natAbs ∧
      ((e - value z * 2 ^ k).natAbs = (e - value w * 2 ^ k).natAbs → value w = value z ∨ z.toNat % 2 = 0) := by
  intro z
  have hbits : absBits z = uncappedBits e.natAbs k := by
    rw [absBits_roundPack, roundBits_eq_uncappedBits hfinite]
  have hscale (x : Word) : (value x * 2 ^ k).natAbs = bitsMagnitude (absBits x) * 2 ^ k := by
    rw [Int.natAbs_mul, natAbs_value]
    rfl
  have hpos : (0 : Int) < 2 ^ k := by positivity
  have hside : (0 ≤ e → 0 ≤ value z * 2 ^ k) ∧ (e ≤ 0 → value z * 2 ^ k ≤ 0) :=
    (value_roundPack_sign hsign k).imp (fun h he => Int.mul_nonneg (h he) hpos.le)
      fun h he => Int.mul_nonpos_of_nonpos_of_nonneg (h he) hpos.le
  obtain ⟨hnear, htie⟩ := uncappedBits_nearest e.natAbs k (absBits w)
  rw [← hbits, ← hscale z, ← hscale w, ← natAbs_sub_of_side hside] at hnear htie
  have hfar := gap_le_natAbs_sub e (value w * 2 ^ k)
  refine ⟨hnear.trans hfar, fun heq => ?_⟩
  rw [toNat_mod_two]
  refine (htie (le_antisymm hnear (hfar.trans_eq heq.symm))).imp_left fun hsame => ?_
  have habs : (value z * 2 ^ k).natAbs = (value w * 2 ^ k).natAbs := by rw [hscale, hscale, hsame]
  exact (Int.eq_of_mul_eq_mul_right hpos.ne' (eq_of_side_of_natAbs_eq hside heq habs)).symm

/-- From the overflow on it is the infinity of the number's sign. -/
theorem roundPack_overflow (hinfinite : ¬ e.natAbs < (2 ^ 25 - 1) * 2 ^ (252 + k)) :
    roundPack neg e.natAbs k = if e < 0 then 0xFF800000 else 0x7F800000 := by
  have hne : e ≠ 0 := by
    rintro rfl
    exact hinfinite (by simp)
  have hinf : roundPack neg e.natAbs k = infinity neg := by
    rw [roundPack_eq, roundBits_eq_infBits hinfinite]
    rfl
  rw [hinf, hsign hne]
  split_ifs with hlt
  · rw [decide_eq_true hlt]
    decide
  · rw [decide_eq_false hlt]
    decide

theorem nearestFloat_roundPack : NearestFloat e k (roundPack neg e.natAbs k) := by
  unfold NearestFloat
  split_ifs with hfinite hneg
  · refine ⟨?_, fun w _ => roundPack_nearest hsign k hfinite w⟩
    rw [finitePattern_iff, absBits_roundPack, roundBits_eq_uncappedBits hfinite]
    exact (uncappedBits_lt_infBits_iff _ _).mpr hfinite
  · rw [roundPack_overflow hsign k hfinite, if_pos hneg]
  · rw [roundPack_overflow hsign k hfinite, if_neg hneg]

end

end Sys2Proof.Machine
end

section
/-! SUPPORT. Products, sums and differences of finite patterns as one rounding each, and what FSRCOVER gives (44_float.md
R221, R231). -/

namespace Sys2Proof.Machine

open Sys2Proof.Statements

theorem value_pos_iff {x : Word} (h : absBits x ≠ 0) : 0 < value x ↔ signBit x = false := by
  have hneg := value_neg_iff h
  have hzero := mt (value_eq_zero_iff x).mp h
  rw [← Bool.not_eq_true, ← hneg]
  omega

/-- A product other than 0 is negative when exactly one factor is. -/
theorem mul_value_neg {a b : Word} (h : value a * value b ≠ 0) :
    (signBit a != signBit b) = decide (value a * value b < 0) := by
  have hne : absBits a ≠ 0 ∧ absBits b ≠ 0 := by
    rw [← not_or, ← value_eq_zero_iff, ← value_eq_zero_iff, ← mul_eq_zero]
    exact h
  obtain ⟨ha, hb⟩ := hne
  rw [Bool.eq_iff_iff, decide_eq_true_iff, mul_neg_iff, bne_iff_ne, value_neg_iff ha, value_neg_iff hb,
    value_pos_iff ha, value_pos_iff hb]
  cases signBit a <;> cases signBit b <;> decide

theorem absBits_flip (b : Word) : absBits (b ^^^ 0x80000000) = absBits b := by
  rw [absBits, BitVec.toNat_xor, Nat.xor_mod_two_pow]
  exact Nat.xor_zero _

theorem signBit_flip (b : Word) : signBit (b ^^^ 0x80000000) = !signBit b := by
  simp [signBit]

theorem value_flip (b : Word) : value (b ^^^ 0x80000000) = -value b := by
  cases hb : signBit b with
  | false => rw [value_of_positive hb, value_of_negative (by rw [signBit_flip, hb]; rfl), absBits_flip]
  | true => rw [value_of_negative hb, value_of_positive (by rw [signBit_flip, hb]; rfl), absBits_flip, neg_neg]

/-- A sum of finite patterns is rounded once; an exact zero is a zero of either sign, and as near. -/
theorem nearestFloat_fadd32 {a b : Word} (ha : absBits a < infBits) (hb : absBits b < infBits) :
    NearestFloat (value a + value b) 0 (fadd32 a b) := by
  rw [fadd32_of_finite ha hb]
  split_ifs with hzero
  · rw [hzero]
    exact nearestFloat_roundPack (e := 0) (absurd rfl) 0
  · exact nearestFloat_roundPack (fun _ => rfl) 0

/-- A zero added to +0 is +0; another number added to it is kept (log entry 20). -/
theorem zero_fadd32 {d : Word} (hd : absBits d < infBits) : fadd32 0 d = if d = 0x80000000 then 0 else d := by
  have hplus : (0 : Word) = signedZero false := by decide
  have hminus : (0x80000000 : Word) = signedZero true := by decide
  by_cases hzero : absBits d = 0
  · rw [eq_signedZero hzero, hplus, hminus, signedZero_add_signedZero]
    cases signBit d <;> decide
  · rw [fadd32_comm_of_finite (by decide) hd, hplus, fadd32_signedZero hd hzero, if_neg]
    rintro rfl
    exact hzero (by decide)

/-- What FSRCOVER requires of its operands (R231). -/
def FsrcoverOperands (r : Request) : Prop := EveryLane InUnit r.f0 ∧ EveryLane InUnit r.f1

theorem require_fsrcover_iff (r : Request) :
    (allLanes in01 r.f0 && allLanes in01 r.f1) = true ↔ FsrcoverOperands r := by
  simp [FsrcoverOperands, allLanes_in01_iff]

theorem givesFloat_fsrcover (c : Straps) {r : Request} (h : FsrcoverOperands r) :
    GivesFloat .fsrcover c r (fvecOf fun j =>
      fadd32 (laneAt r.f0 j) (fmul32 (laneAt r.f1 j) (fsub32 kOne (chanLane c r.f0 .a)))) := by
  rw [← laneAt_laneOf]
  exact givesFloat_of_ruleOf (congrArg (require · _) ((require_fsrcover_iff r).mpr h))

theorem givesViolation_fsrcover (c : Straps) {r : Request} (h : ¬ FsrcoverOperands r) :
    GivesViolation .fsrcover c r :=
  givesViolation_of_require rfl (Bool.eq_false_iff.mpr (mt (require_fsrcover_iff r).mp h))

end Sys2Proof.Machine
end

section
/-! The statements of 44_float.md on the binary32 primitives, on FSRCOVER and on the two paths. -/

namespace Sys2Proof.Machine

open Sys2Proof.Statements

/-- Settles O49: the exact product's magnitude is rounded once, by `roundPack`. -/
theorem floatProductIsCorrectlyRounded : Obligations.FloatProductIsCorrectlyRounded := by
  intro a b ha hb
  rw [finitePattern_iff] at ha hb
  have hmul := fmul32_of_finite ha hb
  rw [← natAbs_value a, ← natAbs_value b, ← Int.natAbs_mul] at hmul
  constructor
  · rw [hmul]
    generalize 149 = k -- the scale plays no part
    exact nearestFloat_roundPack mul_value_neg k
  · change signBit (fmul32 a b) = (signBit a != signBit b)
    rw [hmul, signBit_roundPack]

/-- Settles O50: the exact sum is rounded once, and a difference is the sum with the second sign flipped. -/
theorem floatSumIsCorrectlyRounded : Obligations.FloatSumIsCorrectlyRounded := by
  intro a b ha hb
  rw [finitePattern_iff] at ha hb
  refine ⟨nearestFloat_fadd32 ha hb, ?_, fun hzero => ?_⟩
  · rw [sub_eq_add_neg, ← value_flip]
    exact nearestFloat_fadd32 ha (absBits_flip b ▸ hb)
  · rw [fadd32_of_finite ha hb, if_pos hzero]
    change signedZero (a.getLsbD 31 && b.getLsbD 31) = _
    cases a.getLsbD 31 <;> cases b.getLsbD 31 <;> decide

/-- Settles O54: an opaque source weighs the destination by +0, a transparent one by 1.0, and both products are exact. -/
theorem fsrcoverComposites : Obligations.FsrcoverComposites := by
  refine ⟨fun s d hs hd => ?_, fun c r => ⟨by decide, givesFloat_fsrcover c, givesViolation_fsrcover c⟩⟩
  have hs := finite_of_inUnit hs
  have hd := finite_of_inUnit hd
  have hopaque : fsub32 0x3F800000 0x3F800000 = 0 := by decide
  have htransparent : fsub32 0x3F800000 0 = kOne := by decide
  rw [hopaque, htransparent, fmul32_kOne hd]
  exact ⟨fadd32_fmul32_zero hd hs, zero_fadd32 hd⟩

/-- Settles O57: the model run on the example, by both builds and both tie rules; with this bias the blend is an integer
division. -/
theorem floatPathDiffersFromIntegerPath : Obligations.FloatPathDiffersFromIntegerPath := by
  intro c hbias
  refine ⟨by decide, ?_, ?_⟩
  · unfold laneByte
    cases c.floatClampImpl <;> cases c.floatTies <;> decide
  · rw [intResult_blend8 c (by decide) (by decide) (by decide), mix, biasOf, if_pos hbias]

end Sys2Proof.Machine
end

section
/-! SUPPORT. Running a host program of integer lines, line by line (30_encoding.md R95, R96; 60_exceptions.md R274): what
a command gives on integer operands alone, its line gives in a program. -/

namespace Sys2Proof.Machine

open Sys2Proof.Statements

/-- The unit between two lines of a host program that has violated no precondition (R294). -/
structure BetweenLines (c : Straps) (s : State) : Prop where
  straps_eq : s.straps = c
  idle : s.inFlight = []
  free : s.presented = none
  faultless : s.fault = none

/-- The response with Y = `y`. -/
def intResponse (y : Nat) : Response := ⟨.ok, toBus y, .zero⟩

/-- The state after one more response has been taken, with nothing in flight. -/
def State.took (s : State) (p : Response) : State :=
  { s with inFlight := [], presented := none, taken := s.taken ++ [p] }

theorem betweenLines_resetWith (c : Straps) : BetweenLines c (State.resetWith c) := ⟨rfl, rfl, rfl, rfl⟩

theorem betweenLines_took {c : Straps} {s : State} (h : BetweenLines c s) (p : Response) : BetweenLines c (s.took p) :=
  ⟨h.straps_eq, rfl, rfl, h.faultless⟩

/-- A Y that a command gives on integer operands fits its bus, and comes from an answer that is no violation. -/
theorem ruleOf_of_intResult {c : Straps} {i : Instr} {x0 x1 x2 x3 y : Nat} (h : intResult c i x0 x1 x2 x3 = some y) :
    y < 2 ^ 32 ∧ ruleOf i c (intRequest i x0 x1 x2 x3) ≠ .violation ∧
      (ruleOf i c (intRequest i x0 x1 x2 x3)).response c 0 = intResponse y := by
  by_cases hviolation : ruleOf i c (intRequest i x0 x1 x2 x3) = .violation
  · simp [intResult, result, exec_lone, hviolation, Answer.faultAfter] at h
  · rw [intResult, result_of_not_violation hviolation] at h
    generalize (ruleOf i c (intRequest i x0 x1 x2 x3)).response c 0 = p at h
    obtain ⟨status, word, fy⟩ := p
    obtain ⟨⟨rfl, rfl⟩, rfl⟩ : (status = .ok ∧ fy = .zero) ∧ word.toNat = y := by simpa using h
    exact ⟨word.isLt, hviolation, by rw [intResponse, toBus_toNat_self]⟩

/-- An answer that is no violation changes the requests in flight and the presented response alone. -/
theorem give_of_not_violation {a : Answer} (h : a ≠ .violation) (s : State) (q : List Request) :
    s.give q a = { s with inFlight := q, presented := some (a.response s.straps 0) } := by
  cases a with
  | integer | float | illegal => rfl
  | violation => exact absurd rfl h

/-- Presented, answered and taken, the request of a line leaves its response and changes nothing else. -/
theorem runRequest_of_intResult {c : Straps} {i : Instr} {x0 x1 x2 x3 y : Nat} {s : State} (hs : BetweenLines c s)
    (hwf : i.wf = true) (h : intResult c i x0 x1 x2 x3 = some y) :
    runRequest (intRequest i x0 x1 x2 x3) s = .next (s.took (intResponse y)) := by
  obtain ⟨rfl, hidle, hfree, hfault⟩ := hs
  obtain ⟨-, hviolation, hresponse⟩ := ruleOf_of_intResult h
  have hdecode : decode (intRequest i x0 x1 x2 x3).cmd = .ok i := decode_encode hwf
  have hflight : (s.accept (intRequest i x0 x1 x2 x3)).inFlight = [intRequest i x0 x1 x2 x3] := by simp [hidle]
  have hanswer : perform .answer (s.accept (intRequest i x0 x1 x2 x3))
      = .next { s with inFlight := [], presented := some (intResponse y) } := by
    rw [perform_answer, answerOldest_of_ready ((State.accept_presented _ _).trans hfree) hflight, State.accept_straps,
      answerTo_of_ok _ hdecode, give_of_not_violation hviolation, State.accept_straps, hresponse]
    rfl
  rw [runRequest, hanswer]
  rfl

/-- The host's temporaries after a line whose response has Y = `y`. -/
def Temps.store (ts : Temps) (d : Option String) (y : Nat) : Temps :=
  match d with
  | some d => (d, intResponse y) :: ts
  | none => ts

theorem keep_took (ts : Temps) (l : Line) (s : State) (y : Nat) :
    ts.keep l (s.took (intResponse y)) = ts.store l.dest y := by
  unfold Temps.keep Temps.store
  cases l.dest <;> simp [State.took]

/-- The lines run without a violation from the temporaries `ts`, and the last response has Y = `y`. -/
def Computes (c : Straps) (ts : Temps) (ls : List Line) (y : Nat) : Prop :=
  ∀ s, BetweenLines c s → ∃ ts' t, runLines ls ts s = some (ts', t) ∧ t.fault = none ∧
    t.taken.getLast?.map (fun p => p.y.toNat) = some y

theorem programResult_of_computes {c : Straps} {ls : List Line} {y : Nat} (h : Computes c [] ls y) :
    programResult c ls = some y := by
  obtain ⟨ts', t, hrun, hfault, hlast⟩ := h _ (betweenLines_resetWith c)
  simp [programResult, runProgram, hrun, hfault, hlast]

section
variable {c : Straps} {ts : Temps} {l : Line} {x0 x1 x2 x3 y : Nat}
  (hline : lineRequest ts l = some (intRequest l.instr x0 x1 x2 x3)) (hwf : l.instr.wf = true)
  (hresult : intResult c l.instr x0 x1 x2 x3 = some y)
include hline hwf hresult

theorem runLines_cons {s : State} (hs : BetweenLines c s) (ls : List Line) :
    runLines (l :: ls) ts s = runLines ls (ts.store l.dest y) (s.took (intResponse y)) := by
  simp [runLines, hline, runRequest_of_intResult hs hwf hresult, keep_took]

theorem computes_cons {ls : List Line} {z : Nat} (hrest : Computes c (ts.store l.dest y) ls z) :
    Computes c ts (l :: ls) z := by
  intro s hs
  rw [runLines_cons hline hwf hresult hs]
  exact hrest _ (betweenLines_took hs _)

theorem computes_last : Computes c ts [l] y := by
  intro s hs
  have hy := toBus_toNat (ruleOf_of_intResult hresult).1
  exact ⟨_, _, runLines_cons hline hwf hresult hs [], hs.faultless, by simp [State.took, intResponse, hy]⟩

end

/-- A line of one operand, on X0. -/
theorem computes_unary {c : Straps} {ts : Temps} {d : String} {i : Instr} {v : Value} {x y z : Nat} {ls : List Line}
    (hv : scalarValue ts v = some (toBus x)) (hwf : i.wf = true) (hresult : intResult c i x 0 0 0 = some y)
    (hrest : Computes c ((d, intResponse y) :: ts) ls z) :
    Computes c ts ({ dest := d, instr := i, x0 := v } :: ls) z := by
  have hline : lineRequest ts { dest := d, instr := i, x0 := v } = some (intRequest i x 0 0 0) := by
    rw [lineRequest, hv]
    rfl
  exact computes_cons hline hwf hresult hrest

end Sys2Proof.Machine
end

section
/-! SUPPORT. What the conversions between a 16-bit and a 32-bit pixel compute (30_encoding.md R96), channel by
channel. -/

namespace Sys2Proof.Machine

open Sys2Proof.Statements

section
variable {a r g b : Nat}

theorem computes_cvt565to32 (c : Straps) (f : Fmt) {x : Nat} (hr : intResult c (.ext565 .r) x 0 0 0 = some r)
    (hg : intResult c (.ext565 .g) x 0 0 0 = some g) (hb : intResult c (.ext565 .b) x 0 0 0 = some b)
    (hr' : r < 2 ^ 5) (hg' : g < 2 ^ 6) (hb' : b < 2 ^ 5) :
    Computes c [] (cvt565to32 f (.num (toBus x)))
      (color32 c f 255 (widenValue 5 r) (widenValue 6 g) (widenValue 5 b)) :=
  computes_unary rfl rfl hr <| computes_unary rfl rfl hg <| computes_unary rfl rfl hb <|
  computes_unary rfl rfl (intResult_widen c .w5 hr') <| computes_unary rfl rfl (intResult_widen c .w6 hg') <|
  computes_unary rfl rfl (intResult_widen c .w5 hb') <| computes_last rfl rfl <|
    intResult_pack32 c f le_rfl (widenValue_le _ _) (widenValue_le _ _) (widenValue_le _ _)

theorem computes_cvt32to565 (c : Straps) (f : Fmt) (ha : a ≤ 255) (hr : r ≤ 255) (hg : g ≤ 255) (hb : b ≤ 255) :
    Computes c [] (cvt32to565 f (.num (toBus (color32 c f a r g b))))
      (narrowValue 5 r * 2048 + narrowValue 6 g * 32 + narrowValue 5 b) :=
  have hext := ext32_of_color32 c f ha hr hg hb
  computes_unary rfl rfl (hext .r) <| computes_unary rfl rfl (hext .g) <| computes_unary rfl rfl (hext .b) <|
  computes_unary rfl rfl (intResult_narrow c .w5 hr) <| computes_unary rfl rfl (intResult_narrow c .w6 hg) <|
  computes_unary rfl rfl (intResult_narrow c .w5 hb) <| computes_last rfl rfl <|
    intResult_pack565 c 0 (Nat.le_of_lt_succ (narrowValue_lt .w5 hr)) (Nat.le_of_lt_succ (narrowValue_lt .w6 hg))
      (Nat.le_of_lt_succ (narrowValue_lt .w5 hb))

theorem computes_cvt4444to32 (c : Straps) (f : Fmt) {x : Nat} (ha : intResult c (.ext4444 .a) x 0 0 0 = some a)
    (hr : intResult c (.ext4444 .r) x 0 0 0 = some r) (hg : intResult c (.ext4444 .g) x 0 0 0 = some g)
    (hb : intResult c (.ext4444 .b) x 0 0 0 = some b) (ha' : a < 2 ^ 4) (hr' : r < 2 ^ 4) (hg' : g < 2 ^ 4)
    (hb' : b < 2 ^ 4) :
    Computes c [] (cvt4444to32 f (.num (toBus x)))
      (color32 c f (widenValue 4 a) (widenValue 4 r) (widenValue 4 g) (widenValue 4 b)) :=
  have hwiden {n : Nat} (hn : n < 2 ^ 4) := intResult_widen c .w4 hn
  computes_unary rfl rfl ha <| computes_unary rfl rfl hr <| computes_unary rfl rfl hg <|
  computes_unary rfl rfl hb <| computes_unary rfl rfl (hwiden ha') <| computes_unary rfl rfl (hwiden hr') <|
  computes_unary rfl rfl (hwiden hg') <| computes_unary rfl rfl (hwiden hb') <| computes_last rfl rfl <|
    intResult_pack32 c f (widenValue_le _ _) (widenValue_le _ _) (widenValue_le _ _) (widenValue_le _ _)

theorem computes_cvt32to4444 (c : Straps) (f : Fmt) (ha : a ≤ 255) (hr : r ≤ 255) (hg : g ≤ 255) (hb : b ≤ 255) :
    Computes c [] (cvt32to4444 f (.num (toBus (color32 c f a r g b))))
      (color4444 c (narrowValue 4 a) (narrowValue 4 r) (narrowValue 4 g) (narrowValue 4 b)) :=
  have hext := ext32_of_color32 c f ha hr hg hb
  have hnarrow {v : Nat} (hv : v ≤ 255) := intResult_narrow c .w4 hv
  have hle {v : Nat} (hv : v ≤ 255) := Nat.le_of_lt_succ (narrowValue_lt .w4 hv)
  computes_unary rfl rfl (hext .a) <| computes_unary rfl rfl (hext .r) <| computes_unary rfl rfl (hext .g) <|
  computes_unary rfl rfl (hext .b) <| computes_unary rfl rfl (hnarrow ha) <| computes_unary rfl rfl (hnarrow hr) <|
  computes_unary rfl rfl (hnarrow hg) <| computes_unary rfl rfl (hnarrow hb) <| computes_last rfl rfl <|
    intResult_pack4444 c (hle ha) (hle hr) (hle hg) (hle hb)

end

/-- The low 16 bits of a word are its RGB565 fields (R113). -/
theorem mod_eq_fields565 (p : Word) : (p.extractLsb' 11 5).toNat * 2048 + (p.extractLsb' 5 6).toNat * 32
    + (p.extractLsb' 0 5).toNat = p.toNat % 65536 := by
  simp only [BitVec.extractLsb'_toNat, Nat.shiftRight_eq_div_pow]
  omega

/-- The low 16 bits of a word are its 4444 channels (R114). -/
theorem color4444_fields (c : Straps) (p : Word) :
    color4444 c (p.extractLsb' (lowBit4444 c .a) 4).toNat (p.extractLsb' (lowBit4444 c .r) 4).toNat
      (p.extractLsb' (lowBit4444 c .g) 4).toNat (p.extractLsb' (lowBit4444 c .b) 4).toNat = p.toNat % 65536 := by
  unfold color4444 lowBit4444
  simp only [BitVec.extractLsb'_toNat, Nat.shiftRight_eq_div_pow]
  split_ifs <;> omega

end Sys2Proof.Machine
end

section
/-! The statement of 30_encoding.md on the pseudo-instructions. -/

namespace Sys2Proof.Machine

open Sys2Proof.Statements

/-- Settles O59: packing and extracting keep the widened channels, and narrowing takes the widening back. -/
theorem pixelConversionsRoundTrip : Obligations.PixelConversionsRoundTrip := by
  intro c f p
  constructor
  · have hext {ch : Chan} (hch : ch ≠ .a) := intResult_ext565 c hch p.toNat
    have hwiden := computes_cvt565to32 c f (hext (ch := .r) (by decide)) (hext (ch := .g) (by decide))
      (hext (ch := .b) (by decide)) (BitVec.isLt _) (BitVec.isLt _) (BitVec.isLt _)
    simp only [toBus_toNat_self, pos565] at hwiden
    refine ⟨_, programResult_of_computes hwiden, (programResult_of_computes (computes_cvt32to565 c f le_rfl
      (widenValue_le _ _) (widenValue_le _ _) (widenValue_le _ _))).trans ?_⟩
    have hback5 {n : Nat} (hn : n < 2 ^ 5) : narrowValue 5 (widenValue 5 n) = n := narrowValue_widenValue .w5 hn
    have hback6 {n : Nat} (hn : n < 2 ^ 6) : narrowValue 6 (widenValue 6 n) = n := narrowValue_widenValue .w6 hn
    rw [hback5 (BitVec.isLt _), hback6 (BitVec.isLt _), hback5 (BitVec.isLt _), mod_eq_fields565]
  · have hext (ch : Chan) := intResult_ext4444 c ch p.toNat
    have hwiden := computes_cvt4444to32 c f (hext .a) (hext .r) (hext .g) (hext .b) (BitVec.isLt _) (BitVec.isLt _)
      (BitVec.isLt _) (BitVec.isLt _)
    rw [toBus_toNat_self] at hwiden
    refine ⟨_, programResult_of_computes hwiden, (programResult_of_computes (computes_cvt32to4444 c f
      (widenValue_le _ _) (widenValue_le _ _) (widenValue_le _ _) (widenValue_le _ _))).trans ?_⟩
    have hback {n : Nat} (hn : n < 2 ^ 4) : narrowValue 4 (widenValue 4 n) = n := narrowValue_widenValue .w4 hn
    rw [hback (BitVec.isLt _), hback (BitVec.isLt _), hback (BitVec.isLt _), hback (BitVec.isLt _), color4444_fields]

end Sys2Proof.Machine
end
